-- ==== Sys2Proof/Word.lean ====
section
/-! DEFINITION. The plainest types of the NV2404: bytes, sets of pods, and the numbers of pods, legs and ports (00, "Numbering"). -/

namespace Sys2Proof

/-- One byte of a controller frame, of a pod link character or of the store. -/
abbrev Byte := BitVec 8

/-- A pod address: the member `p` stands for the pod of address `p + 1`, so the 24 members are pods 1 to 24. -/
abbrev PodId := Fin 24

/-- A leg index, 0 to 3. -/
abbrev LegId := Fin 4

/-- A controller port number, 0 to 2. -/
abbrev PortId := Fin 3

/-- A set of pods: bit `p` is the pod of address `p + 1`. -/
abbrev PodSet := BitVec 24

end Sys2Proof
end

