-- ==== Sys2Proof/Syntax.lean ====
section
/-! DEFINITION. The commands of the NV2404: one constructor for each row of spec/opcode_table.json. -/

namespace Sys2Proof

/-- The levels of the input wires POD_IN 0 to 2 and LEG_IN at one bit clock (R108, R109). -/
structure LaneClock where
  podIn : Vector Bool 3
  legIn : Bool
deriving DecidableEq, Repr

/-- The commands. A request row carries the port whose head frame is taken: the operand bytes of the request stand in that frame (R151). -/
inductive Instr where
  /-- POWER_UP (R172); `install` is the level INSTALL is sampled at. -/
  | powerUp (install : Bool)
  /-- RESET_N (R179). -/
  | resetN
  /-- SELECTION (R147). -/
  | selection (port : PortId)
  /-- DESELECTION (R149); `clocked` are the levels of the controller's data wire since the selection, one for each clock (R147). What becomes of a last byte whose eight clocks are not complete is log 20. -/
  | deselection (port : PortId) (clocked : List Bool)
  /-- BAD_FRAME (R151). -/
  | badFrame (port : PortId)
  /-- UNKNOWN (R151). -/
  | unknown (port : PortId)
  /-- JOIN (R154). -/
  | join (port : PortId)
  /-- LEAVE (R155). -/
  | leave (port : PortId)
  /-- PULSE (R156). -/
  | pulse (port : PortId)
  /-- NOTICES (R159). -/
  | notices (port : PortId)
  /-- WATCH (R159). -/
  | watch (port : PortId)
  /-- IDENT (R162). -/
  | ident (port : PortId)
  /-- HOLD_ON with target kind PODS (R25). -/
  | holdOnPods (port : PortId)
  /-- HOLD_ON with target kind SEND or RECEIVE (R26). -/
  | holdOnLegs (port : PortId)
  /-- HOLD_OFF (R27). -/
  | holdOff (port : PortId)
  /-- RELEASE_ALL (R28). -/
  | releaseAll (port : PortId)
  /-- PRIVACY_ON (R29). -/
  | privacyOn (port : PortId)
  /-- PRIVACY_OFF (R30). -/
  | privacyOff (port : PortId)
  /-- LEG_STATE (R120). -/
  | legState (port : PortId)
  /-- GAIN with kind TRIM (R12). -/
  | gainTrim (port : PortId)
  /-- GAIN with kind VOLUME (R12). -/
  | gainVolume (port : PortId)
  /-- GAIN with kind LEG_GAIN (R12). -/
  | gainLegGain (port : PortId)
  /-- The set form of TUNE (R13). -/
  | tuneSet (port : PortId)
  /-- The query form of TUNE (R13). -/
  | tuneQuery (port : PortId)
  /-- ROSTER LIST (R6). -/
  | rosterList (port : PortId)
  /-- ROSTER UNLIST (R7). -/
  | rosterUnlist (port : PortId)
  /-- ROSTER CHAIR (R9). -/
  | rosterChair (port : PortId)
  /-- ROSTER CLASS (R10). -/
  | rosterClass (port : PortId)
  /-- EXCLUDE (R11). -/
  | exclude (port : PortId)
  /-- READ_CHANNEL (R161). -/
  | readChannel (port : PortId)
  /-- READ_TALKERS (R85). -/
  | readTalkers (port : PortId)
  /-- READ_LEGS (R117). -/
  | readLegs (port : PortId)
  /-- READ_PORTS (R161). -/
  | readPorts (port : PortId)
  /-- READ_FAULTS (R168). -/
  | readFaults (port : PortId)
  /-- READ_ROOM (R161). -/
  | readRoom (port : PortId)
  /-- CLEAR_FAULTS (R170). -/
  | clearFaults (port : PortId)
  /-- STORE_READ (R174). -/
  | storeRead (port : PortId)
  /-- STORE_STATUS (R174). -/
  | storeStatus (port : PortId)
  /-- STORE_WRITE (R175). -/
  | storeWrite (port : PortId)
  /-- STORE_COMMIT (R176). -/
  | storeCommit (port : PortId)
  /-- STORE_ERASE (R177). -/
  | storeErase (port : PortId)
  /-- PROFILE_LOAD (R181). -/
  | profileLoad (port : PortId)
  /-- STORE_COMPLETION (R173): the store array reports the end of a write or commit. -/
  | storeCompletion
  /-- ERASE_BLOCK_COMPLETION (R177): the store array reports the end of an erase block. -/
  | eraseBlockCompletion
  /-- OPERATION_TIMEOUT (R178). -/
  | operationTimeout
  /-- PRESENCE_TIMER_EXPIRY (R157). -/
  | presenceTimerExpiry (port : PortId)
  /-- SLOT_START (R131). -/
  | slotStart
  /-- REPLY_COMPLETE (R134): the levels of the pod link since the reply window opened, one for each bit time as PL samples them (R130), in five parts: for each character those up to its stop bit. -/
  | replyComplete (echo counts flags checkHigh checkLow : List Bool)
  /-- REPLY_WINDOW_CLOSES (R134). -/
  | replyWindowCloses
  /-- SHORT_PRESS (R33): the next short press of the pod of this address is delivered to MA. -/
  | shortPress (address : Nat)
  /-- LONG_PRESS (R35): the next long press of the pod of this address is delivered to MA. -/
  | longPress (address : Nat)
  /-- SHORT_PERIOD (R112). -/
  | shortPeriod
  /-- SAMPLE_PERIOD_COMPLETE (R110); `clocks` are the levels of the input wires from the period's frame sync to the next, one for each bit clock, and so 256 or more (R109). -/
  | samplePeriodComplete (clocks : List LaneClock)
  /-- WATCHDOG_EXPIRY (R114). -/
  | watchdogExpiry
  /-- FRAME_WORK (R61). -/
  | frameWork
  /-- MIX_FRAME_EVENT (R87). -/
  | mixFrameEvent
  /-- REPLY_FULLY_SHIFTED_OUT (R148). -/
  | replyFullyShiftedOut (port : PortId)
deriving DecidableEq, Repr

end Sys2Proof
end

