-- ==== Sys2Proof/Config.lean ====
section
/-! DEFINITION. The free values: what the manual leaves open, as constants without a body, so that no proof can rest on their value. -/

namespace Sys2Proof

/-- FREE VALUE (R178, R179; log 5): whether, in the store operation that was the `n`th to end without its completion, the `i`th byte concerned took its new value. "Each accepted byte of the page holds either its old value or its new value", and so for each byte of an erase block in progress. -/
opaque Config.byteTook (n i : Nat) : Bool

/-- FREE VALUE (R179; log 5): whether a commit that a reset interrupted took effect: "the commit map entry is either BLANK or COMMITTED". -/
opaque Config.commitTook (n : Nat) : Bool

/-- FREE VALUE (R112, R114; log 21): how many bit clocks of a sample period had arrived when it was broken, counted from those whose levels are already known and modulo those that were still to come; `n` is the index of the break. A short period has fewer than 256, and nothing says how many. -/
opaque Config.clocksArrived (n : Nat) : Nat

end Sys2Proof
end

