-- ==== Sys2Proof/WellFormed.lean ====
section
/-! DEFINITION. Which commands are well formed. Ports, legs and the levels of a line are well formed by their types; a press names a pod address 1 to 24 (00, "Numbering"), and a complete sample period has 256 bit clocks or more (R109). -/

namespace Sys2Proof

/-- A pod address is 1 to 24 (00, "Numbering"). -/
def isPodAddress (address : Nat) : Bool := 1 ≤ address && address ≤ 24

/-- The bit clocks of eight slots of 32 bits (R109). -/
def periodClocks : Nat := 256

/-- A command is well formed when every number it carries is in range. The typed operands are in range by construction. -/
def Instr.wellFormed : Instr → Bool
  | .shortPress address => isPodAddress address
  | .longPress address => isPodAddress address
  | .samplePeriodComplete clocks => decide (periodClocks ≤ clocks.length)
  | .powerUp _ | .resetN | .selection _ | .deselection _ _ | .badFrame _ | .unknown _ => true
  | .join _ | .leave _ | .pulse _ | .notices _ | .watch _ | .ident _ => true
  | .holdOnPods _ | .holdOnLegs _ | .holdOff _ | .releaseAll _ | .privacyOn _ | .privacyOff _ => true
  | .legState _ | .gainTrim _ | .gainVolume _ | .gainLegGain _ | .tuneSet _ | .tuneQuery _ => true
  | .rosterList _ | .rosterUnlist _ | .rosterChair _ | .rosterClass _ | .exclude _ => true
  | .readChannel _ | .readTalkers _ | .readLegs _ | .readPorts _ | .readFaults _ | .readRoom _ => true
  | .clearFaults _ | .storeRead _ | .storeStatus _ | .storeWrite _ | .storeCommit _ | .storeErase _ => true
  | .profileLoad _ | .storeCompletion | .eraseBlockCompletion | .operationTimeout => true
  | .presenceTimerExpiry _ | .slotStart | .replyComplete _ _ _ _ _ | .replyWindowCloses => true
  | .shortPeriod | .watchdogExpiry | .frameWork | .mixFrameEvent => true
  | .replyFullyShiftedOut _ => true

end Sys2Proof
end

