-- ==== Sys2Proof/Machine/State.lean ====
section
/-! DEFINITION. The state of the NV2404: every piece of state the manual gives its ten blocks, as plain data, and its value after reset. -/

namespace Sys2Proof.Machine

/-- Why the machine stops with a fault: never. Every event of the manual has an effect or leaves the state as it stands, and no access leaves the store (R174, R175), so no meaning answers with a fault. Safe: nothing can raise it. -/
inductive Fault where
deriving DecidableEq, Repr

/-- Why the machine refuses a command. -/
inductive Refusal where
  /-- A row of the opcode table without a meaning yet, raised by `exec`'s arm alone. Safe: the machine stops. No arm raises it. -/
  | notModelled (mnemonic : String)
deriving DecidableEq, Repr

/-! ### Names of the manual -/

/-- The part a controller plays at a port (R153, Table 12-2). -/
inductive Role where
  | call | room | view
deriving DecidableEq, Repr

/-- The state of a controller port (Table 9-2). -/
inductive PortState where
  | detached | attached | stale | absent
deriving DecidableEq, Repr

/-- The state of a pod at PL (R129). -/
inductive PodState where
  | unlisted | seeking | online | doubtful | lost
deriving DecidableEq, Repr

/-- The gate state of a channel (R68); `opened` is the manual's OPEN. -/
inductive GateState where
  | closed | opened | hold | last
deriving DecidableEq, Repr

/-- The state of a leg (R117); `opened` is the manual's OPEN. -/
inductive LegState where
  | closed | opened | held
deriving DecidableEq, Repr

/-- The indicator patterns (R54, Table 3-3). -/
inductive Pattern where
  | dark | live | talking | mutedSelf | mutedHeld | mutedSpeaking | privateRoom
deriving DecidableEq, Repr

/-- The sync state of the audio lanes (R113). -/
inductive SyncState where
  | starting | running | missing
deriving DecidableEq, Repr

/-- The party that set privacy (R19). -/
inductive Setter where
  | call | room | start
  /-- A chair pod's long press, with the pod. -/
  | chair (pod : PodId)
deriving DecidableEq, Repr

/-- The reasons of a refusal (Table 9-4). -/
inductive Reason where
  | notJoined | alreadyJoined | roleTaken | notPermitted | range | length | check | unknown
  | repeated | state | storeBusy | protected_ | notInstaller | legsActive
deriving DecidableEq, Repr

/-- The statuses of a queued reply (Table 9-1). The status NONE belongs to the empty frame, which is not queued (R148). -/
inductive Status where
  | done | clamped | started
  /-- REFUSED, with its reason. -/
  | refused (reason : Reason)
deriving DecidableEq, Repr

/-- The notice categories (R158), in the order of their bits (Table 12-1). -/
inductive Category where
  | holds | talkers | pods | legs | ports | faults | store
deriving DecidableEq, Repr

/-- A set of notice categories; its bits are those of Table 12-1. -/
abbrev CategorySet := BitVec 7

/-! ### Records -/

/-- A pod's hold set (R16): which of the four holders hold it. -/
structure HoldSet where
  pod : Bool
  room : Bool
  call : Bool
  link : Bool
deriving DecidableEq, Repr

/-- A leg's send-hold or receive-hold set (R17): which of the two roles hold it. -/
structure LegHolds where
  room : Bool
  call : Bool
deriving DecidableEq, Repr

/-- A gain with its previous and its present value (R44, R88). -/
structure Ramp where
  prev : Nat
  now : Nat
deriving DecidableEq, Repr

/-- A fault record: its latch and FU's copy of its condition (R164). -/
structure FaultRecord where
  latch : Bool
  condition : Bool
deriving DecidableEq, Repr

/-- The press counts of a pod's last accepted reply (R129), each 0 to 15. -/
structure Baselines where
  short : Nat
  long : Nat
deriving DecidableEq, Repr

/-- Everything the blocks hold for one pod address. -/
structure Pod where
  /-- RT: membership of the roster (R2). -/
  listed : Bool
  /-- RT: membership of the chair set (R2). -/
  chair : Bool
  /-- RT: priority class, 0 to 3 (R2). -/
  cls : Nat
  /-- RT: exclusion set (R2). -/
  excl : PodSet
  /-- RT: trim, 0 to 131,072 (R2). -/
  trim : Nat
  /-- RT: pod volume, 0 to 65,536 (R2). -/
  volume : Nat
  /-- MA: hold set (R16). -/
  holds : HoldSet
  /-- MA: the copy of the muted-talk flag (R58). -/
  flagCopy : Bool
  /-- MA: indicator entry (R54). -/
  pattern : Pattern
  /-- GE: level L (R62). -/
  level : Nat
  /-- GE: floor F (R62). -/
  floor : Nat
  /-- GE: gate state (R68). -/
  gate : GateState
  /-- GE: muted-talk flag (R80). -/
  mutedTalk : Bool
  /-- ME: mute envelope M (R44). -/
  muteEnv : Ramp
  /-- ME: gate envelope G (R44). -/
  gateEnv : Ramp
  /-- ME: contribution gain c (R88). -/
  contrib : Ramp
  /-- ME: the contribution gain on which the last computed frame ended (R97); it differs from the present c only after a trim was lowered (log 12). -/
  contribEnd : Nat
  /-- ME: pod volume gain U (R88). -/
  volumeGain : Ramp
  /-- PL: pod state (R129). -/
  link : PodState
  /-- PL: consecutive-miss count (R129). -/
  misses : Nat
  /-- PL: baselines, absent outside ONLINE and DOUBTFUL (R129). -/
  baselines : Option Baselines
  /-- PL: short presses found and not yet delivered to MA (R142). -/
  shortDue : Nat
  /-- PL: long presses found and not yet delivered to MA (R142). -/
  longDue : Nat
  /-- PL: timeout counter (R129). -/
  timeouts : Nat
  /-- PL: check-failure counter (R129). -/
  checkFailures : Nat
  /-- PL: framing-error counter (R129). -/
  framingErrors : Nat
  /-- PL: local fault (R129). -/
  localFault : Bool
  /-- FU: POD_LOST (R164). -/
  podLost : FaultRecord
  /-- FU: POD_CLIP (R164). -/
  podClip : FaultRecord
  /-- FU: POD_LOCAL (R164). -/
  podLocal : FaultRecord
  /-- FU: POD_ERRORS (R164). -/
  podErrors : FaultRecord
deriving DecidableEq, Repr

/-- Everything the blocks hold for one leg. -/
structure Leg where
  /-- LT: state (R117). -/
  state : LegState
  /-- RT: leg gain, 0 to 131,072 (R2). -/
  gain : Nat
  /-- MA: send-hold set (R17). -/
  sendHolds : LegHolds
  /-- MA: receive-hold set (R17). -/
  receiveHolds : LegHolds
  /-- ME: receive envelope E (R44). -/
  receiveEnv : Ramp
  /-- ME: send envelope Q (R44). -/
  sendEnv : Ramp
  /-- ME: receive factor e (R88). -/
  receiveFactor : Ramp
deriving DecidableEq, Repr

/-- A frame of a port's request queue (R149, R150). -/
structure RequestFrame where
  /-- The command byte as received. -/
  code : Byte
  /-- The operand bytes; empty for a bad frame. -/
  operands : List Byte
  /-- The reason LENGTH or CHECK of a bad frame; absent for a good one. -/
  bad : Option Reason
deriving DecidableEq, Repr

/-- A reply of a port's reply queue (R152), without the flags and the check, which are formed as it is shifted out. -/
structure Reply where
  status : Status
  /-- The command byte of the frame it answers. -/
  echo : Byte
  payload : List Byte
deriving DecidableEq, Repr

/-- The transaction in progress at a port (R147). -/
structure Transaction where
  /-- The frame fixed at selection, from status to check byte. -/
  frame : List Byte
  /-- Whether the frame is the reply at the head of the reply queue. -/
  isReply : Bool
  /-- Whether the frame's flags byte carries the overrun flag set. -/
  carriesOverrun : Bool
  /-- Whether the frame's check byte has been shifted out completely (R148). -/
  complete : Bool
deriving DecidableEq, Repr

/-- Everything the blocks hold for one controller port (R153). -/
structure Port where
  state : PortState
  role : Option Role
  /-- The last phase, 0 or 1 (R156). -/
  lastPhase : Nat
  /-- The presence timer: stopped, or running with the PRESENCE code of its period (R157). -/
  timer : Option Nat
  mask : CategorySet
  pendingSet : CategorySet
  overrun : Bool
  attention : Bool
  /-- Oldest at the head (R150). -/
  requests : List RequestFrame
  /-- Oldest at the head (R151). -/
  replies : List Reply
  transaction : Option Transaction
  /-- The MODEL's own record of the part's data wire: its level at each clock of the last transaction that ended (R147; log 8). -/
  lastSent : List Bool
  /-- FU: PORT_LOST (R164). -/
  portLost : FaultRecord
deriving DecidableEq, Repr

/-- The state of a talker entry (R67), with the remaining hold of HOLD. -/
inductive TalkerState where
  | opened
  | hold (remaining : Nat)
  | last
deriving DecidableEq, Repr

/-- An entry of the talker list (R67). -/
structure Talker where
  pod : PodId
  state : TalkerState
  cls : Nat
  admission : BitVec 32
deriving DecidableEq, Repr

/-- The fifteen tuning parameters (R3, Table 1-2). PRESENCE is its code; bit k of `flush` is bit k of the FLUSH flag set (Table 12-1). -/
structure Tuning where
  openLimit : Nat
  marginShift : Nat
  absThreshold : Nat
  gateHold : Nat
  attack : Nat
  release : Nat
  offGain : Nat
  lastOn : Nat
  muteRamp : Nat
  reinforce : Nat
  presence : Nat
  missLimit : Nat
  podOverride : Nat
  flush : BitVec 5
  startPrivate : Nat
deriving DecidableEq, Repr

/-- What PL puts out in one bit time of the pod link (R130). -/
structure LinkBit where
  /-- The direction output: asserted while PL drives the line. -/
  direction : Bool
  /-- The level of the line; it rests at 1. -/
  level : Bool
deriving DecidableEq, Repr

/-- The slot of the pod link in progress (R131, R134, R145). -/
structure Slot where
  pod : PodId
  /-- What PL puts out for the slot's poll, bit time by bit time from the start of the slot, up to the release of the line (R130, R132). -/
  poll : List LinkBit
  /-- Whether reception has ended in this slot. -/
  judged : Bool
  /-- Whether the pod was unlisted while its reply was awaited (R7). -/
  discard : Bool
deriving DecidableEq, Repr

/-- The input slots of one complete sample period (R108, R109): eight 32-bit slots on each of the wires POD_IN 0 to 2 and on LEG_IN, each slot's first bit its most significant. -/
structure LaneInput where
  podIn : Vector (Vector (BitVec 32) 8) 3
  legIn : Vector (BitVec 32) 8
deriving DecidableEq, Repr

/-- A complete input frame on its way through GE and ME (R110): its 48 sample periods, oldest first. -/
structure WorkFrame where
  samples : List LaneInput
  /-- Whether its output is still to be carried: cleared when the lanes break off (R112). -/
  deliver : Bool
deriving DecidableEq, Repr

/-- One output sample of each of the 29 outputs (R104). -/
structure OutputSample where
  sends : Vector Int 4
  record : Int
  feeds : Vector Int 24
deriving DecidableEq, Repr

/-- The levels of the output wires POD_OUT 0 to 2 and LEG_OUT at one bit clock (R108, R109). -/
structure LaneLevels where
  podOut : Vector Bool 3
  legOut : Bool
deriving DecidableEq, Repr

/-- The store operation in progress (R172, R173). -/
inductive StoreOp where
  | idle
  /-- WRITING: the address and the accepted bytes. -/
  | writing (address : Nat) (data : List Byte)
  /-- COMMITTING: the section. -/
  | committing (sect : Nat)
  /-- ERASING: the section and the block being erased. -/
  | erasing (sect block : Nat)
deriving DecidableEq, Repr

/-- The last result of a store operation (R172). -/
inductive StoreResult where
  | ok | failed
deriving DecidableEq, Repr

/-- The state of the part. -/
structure State where
  /-- The MODEL's own: the commands that wait, first in first out (log 1). -/
  pending : List Instr
  /-- One record for each pod address (R2, R16, R44, R62, R129, R164). -/
  pods : Vector Pod 24
  /-- One record for each leg (R2, R17, R44, R117). -/
  legs : Vector Leg 4
  /-- One record for each controller port (R153). -/
  ports : Vector Port 3
  /-- RT: the tuning parameters (R3). -/
  tuning : Tuning
  /-- MA: the privacy record; absent while ACTIVE is clear (R19). -/
  privacy : Option Setter
  /-- GE: the talker list, oldest entry first (R67). -/
  talkers : List Talker
  /-- GE: the frame count (R60). -/
  frameCount : BitVec 32
  /-- GE: the complete input frame whose frame work is to come (R110). -/
  gateInput : Option WorkFrame
  /-- ME: the frame whose mix frame event is to come (R60). -/
  mixInput : Option WorkFrame
  /-- ME: the NOM factor N (R88). -/
  nomGain : Ramp
  /-- ME: the REINFORCE gain V (R88). -/
  reinforceGain : Ramp
  /-- AL: the sync state (R113). -/
  sync : SyncState
  /-- AL: whether the frame-sync watchdog runs (R113). -/
  watchdog : Bool
  /-- AL: the sample periods placed in the frame in assembly; their number is the frame position (R110). -/
  assembly : List LaneInput
  /-- AL: the computed output frame that waits for the next frame boundary (R111). -/
  waiting : Option (List OutputSample)
  /-- AL: the computed output frame in progress on the wires (R111). -/
  inProgress : Option (List OutputSample)
  /-- AL: the levels of the output wires at each bit clock of the last sample period, complete or short, from its frame sync to the next (R109, R112). -/
  lanesOut : List LaneLevels
  /-- AL: where the watchdog ran out in the sample period under way, the levels of the output wires at the bit clocks of that period before it; from then on they carry 0 (R114). Empty otherwise. -/
  underway : List LaneLevels
  /-- PL: the last-polled address, 0 to 24 (R129). -/
  lastPolled : Nat
  /-- PL: the slot in progress (R131). -/
  slot : Option Slot
  /-- FU: AUDIO_CLOCK (R164). -/
  audioClock : FaultRecord
  /-- FU: the latch of STORE_TIMEOUT, which has no condition (R164). -/
  storeTimeout : Bool
  /-- PS: the store bytes that differ from 0xFF, by rising address (R172). -/
  store : List Host.Cell
  /-- PS: the commit map; bit s is set when section Ss is COMMITTED (R172, Table 12-1). -/
  commitMap : BitVec 8
  /-- PS: the operation state (R172). -/
  storeOp : StoreOp
  /-- PS: the completions of writes and commits that timed out, which are still to come and to be discarded (R178; log 14). -/
  lateStores : Nat
  /-- PS: the completions of erase blocks that timed out, which are still to come and to be discarded (R178; log 14). -/
  lateBlocks : Nat
  /-- PS: the last result (R172). -/
  lastResult : StoreResult
  /-- PS: the installer-mode flag (R172). -/
  installer : Bool
  /-- The MODEL's own: the index of the next free value (log 5). -/
  freeCount : Nat
deriving DecidableEq, Repr

/-! ### Values after reset -/

/-- The empty hold set. -/
def HoldSet.empty : HoldSet := ⟨false, false, false, false⟩

/-- The hold set of a listed pod after reset (R16). -/
def HoldSet.linkOnly : HoldSet := ⟨false, false, false, true⟩

/-- The empty leg hold set. -/
def LegHolds.empty : LegHolds := ⟨false, false⟩

/-- A gain that stands at `v`. -/
def Ramp.flat (v : Nat) : Ramp := ⟨v, v⟩

/-- A fault record after reset (R164). -/
def FaultRecord.clear : FaultRecord := ⟨false, false⟩

/-- An unlisted pod with every block's reset value and the defaults of Table 1-1; a load lists it (R16, R44, R54, R62, R68, R80, R88, R129, R164). -/
def Pod.base (p : PodId) : Pod where
  listed := false
  chair := false
  cls := 1
  excl := 1#24 <<< p.val
  trim := 65536
  volume := 65536
  holds := HoldSet.empty
  flagCopy := false
  pattern := .dark
  level := 0
  floor := 0
  gate := .closed
  mutedTalk := false
  muteEnv := Ramp.flat 0
  gateEnv := Ramp.flat 0
  contrib := Ramp.flat 0
  contribEnd := 0
  volumeGain := Ramp.flat 65536
  link := .unlisted
  misses := 0
  baselines := none
  shortDue := 0
  longDue := 0
  timeouts := 0
  checkFailures := 0
  framingErrors := 0
  localFault := false
  podLost := FaultRecord.clear
  podClip := FaultRecord.clear
  podLocal := FaultRecord.clear
  podErrors := FaultRecord.clear

/-- A leg after reset, with the default leg gain (R17, R44, R88, R117). -/
def Leg.base : Leg where
  state := .closed
  gain := 65536
  sendHolds := LegHolds.empty
  receiveHolds := LegHolds.empty
  receiveEnv := Ramp.flat 0
  sendEnv := Ramp.flat 0
  receiveFactor := Ramp.flat 0

/-- A port after reset (R148, R150, R153, R160, R164). -/
def Port.base : Port where
  state := .detached
  role := none
  lastPhase := 1
  timer := none
  mask := 0
  pendingSet := 0
  overrun := false
  attention := false
  requests := []
  replies := []
  transaction := none
  lastSent := []
  portLost := FaultRecord.clear

/-- The defaults of Table 1-2. -/
def Tuning.defaults : Tuning where
  openLimit := 4
  marginShift := 2
  absThreshold := 2048
  gateHold := 400
  attack := 2
  release := 100
  offGain := 0
  lastOn := 1
  muteRamp := 8
  reinforce := 0
  presence := 1
  missLimit := 3
  podOverride := 0
  flush := 0b00011#5
  startPrivate := 0

/-- Every output wire at 0. -/
def LaneLevels.low : LaneLevels := ⟨Vector.replicate 3 false, false⟩

/-- The output wires at 0 for this many bit clocks (R109, R111). -/
def silentFor (clocks : Nat) : List LaneLevels := List.replicate clocks LaneLevels.low

/-- A pod that the default roster lists (R2, R16, R54, R129). -/
def Pod.reset (p : PodId) : Pod :=
  { Pod.base p with listed := true, holds := HoldSet.linkOnly, pattern := .mutedHeld, link := .seeking }

/-- The part after a power-up with INSTALL not active and a store that has never been written (R172): every section BLANK, so the load gives the defaults of Tables 1-1 and 1-2, and every block has its reset value. The strap's level and the unwritten store are this model's choice (log 2). -/
def State.reset : State where
  pending := []
  pods := Vector.ofFn Pod.reset
  legs := Vector.replicate 4 Leg.base
  ports := Vector.replicate 3 Port.base
  tuning := Tuning.defaults
  privacy := none
  talkers := []
  frameCount := 0
  gateInput := none
  mixInput := none
  nomGain := Ramp.flat 65536
  reinforceGain := Ramp.flat 0
  sync := .starting
  watchdog := true
  assembly := []
  waiting := none
  inProgress := none
  lanesOut := silentFor periodClocks
  underway := []
  lastPolled := 0
  slot := none
  audioClock := FaultRecord.clear
  storeTimeout := false
  store := []
  commitMap := 0
  storeOp := .idle
  lateStores := 0
  lateBlocks := 0
  lastResult := .ok
  installer := false
  freeCount := 0

end Sys2Proof.Machine
end

