-- ==== Sys2Proof/Machine/Ops.lean ====
section
/-! DEFINITION. The named operations over the state that every block shares: the store's bytes, the records of pods, legs and ports, notices (R158), fault reports (R165), resolved mute (R20) and what a change of it sets in motion (R21), and the values that follow the rest of the state in the same event (R56, R58, R68, R160). -/

namespace Sys2Proof.Machine

/-- What a command answers. -/
abbrev Result := Host.Outcome State Fault Refusal

/-! ### The store's bytes (R172) -/

/-- The 1,024 store bytes, as the list of those that do not read as an erased byte. -/
abbrev Memory := List Host.Cell

/-- What a byte erased or never written reads as (R172). -/
def erasedByte : Byte := 0xFF

/-- The number of store bytes (R172). -/
def storeSize : Nat := 1024

/-- The byte at an address. -/
def Memory.read : Memory → Nat → Byte
  | [], _ => erasedByte
  | c :: m, a => if c.1 = a then c.2 else Memory.read m a

/-- The store after a byte takes a value; a byte that takes 0xFF is listed no longer. -/
def Memory.write : Memory → Nat → Byte → Memory
  | [], a, b => if b = erasedByte then [] else [(a, b)]
  | c :: m, a, b =>
    if a < c.1 then (if b = erasedByte then c :: m else (a, b) :: c :: m)
    else if a = c.1 then (if b = erasedByte then m else (a, b) :: m)
    else c :: Memory.write m a b

/-- The canonical form: addresses strictly rising from `low` and below 1,024, and no listed byte reads as an erased one. -/
def Memory.wfFrom : Nat → Memory → Bool
  | _, [] => true
  | low, c :: m => decide (low ≤ c.1) && decide (c.1 < storeSize) && decide (c.2 ≠ erasedByte) && Memory.wfFrom (c.1 + 1) m

/-- The canonical form of the whole store. -/
def Memory.wf (m : Memory) : Bool := Memory.wfFrom 0 m

/-- `count` bytes from an address on. -/
def Memory.readMany (m : Memory) (a : Nat) : Nat → List Byte
  | 0 => []
  | n + 1 => m.read a :: Memory.readMany m (a + 1) n

/-- The store after consecutive bytes take their values. -/
def Memory.writeMany (m : Memory) (a : Nat) : List Byte → Memory
  | [] => m
  | b :: bs => Memory.writeMany (m.write a b) (a + 1) bs

/-! ### Records of pods, legs and ports -/

/-- The pod addresses, ascending. -/
def allPods : List PodId := List.finRange 24

/-- The legs, ascending. -/
def allLegs : List LegId := List.finRange 4

/-- The ports, ascending. -/
def allPorts : List PortId := List.finRange 3

/-- The record of a pod. -/
def State.pod (s : State) (p : PodId) : Pod := s.pods[p]

/-- The record of a leg. -/
def State.leg (s : State) (m : LegId) : Leg := s.legs[m]

/-- The record of a port. -/
def State.port (s : State) (q : PortId) : Port := s.ports[q]

/-- The state with every pod record replaced. -/
def State.mapPods (s : State) (f : PodId → Pod → Pod) : State :=
  { s with pods := Vector.ofFn fun p => f p (s.pod p) }

/-- The state with every leg record replaced. -/
def State.mapLegs (s : State) (f : LegId → Leg → Leg) : State :=
  { s with legs := Vector.ofFn fun m => f m (s.leg m) }

/-- The state with every port record replaced. -/
def State.mapPorts (s : State) (f : PortId → Port → Port) : State :=
  { s with ports := Vector.ofFn fun q => f q (s.port q) }

/-- The state with one pod record replaced. -/
def State.modPod (s : State) (p : PodId) (f : Pod → Pod) : State :=
  s.mapPods fun q pod => if q = p then f pod else pod

/-- The state with one leg record replaced. -/
def State.modLeg (s : State) (m : LegId) (f : Leg → Leg) : State :=
  s.mapLegs fun k leg => if k = m then f leg else leg

/-- The state with one port record replaced. -/
def State.modPort (s : State) (q : PortId) (f : Port → Port) : State :=
  s.mapPorts fun k port => if k = q then f port else port

/-- A pod address as it is written in requests and on the link (00, "Numbering"). -/
def addressOf (p : PodId) : Nat := p.val + 1

/-- The pod of an address 1 to 24. -/
def podOfAddress (a : Nat) : Option PodId :=
  if h : 1 ≤ a ∧ a ≤ 24 then some ⟨a - 1, by omega⟩ else none

/-- Membership of a set of pods. -/
def PodSet.has (x : PodSet) (p : PodId) : Bool := x.getLsbD p.val

/-- The set of the pods that satisfy a test. -/
def podSetWhere (f : PodId → Bool) : PodSet := BitVec.ofFnLE f

/-! ### Notices (R158, R160) -/

/-- The bit of a category (Table 12-1). -/
def Category.bit : Category → CategorySet
  | .holds => 0b0000001#7
  | .talkers => 0b0000010#7
  | .pods => 0b0000100#7
  | .legs => 0b0001000#7
  | .ports => 0b0010000#7
  | .faults => 0b0100000#7
  | .store => 0b1000000#7

/-- All seven categories (R154). -/
def allCategories : CategorySet := 0b1111111#7

/-- A port holds a role exactly while it is ATTACHED or STALE (R153). -/
def Port.joined (port : Port) : Bool := port.state == .attached || port.state == .stale

/-- A port as a raised notice leaves it (R158): the category is added if the port is joined and watches it. -/
def Port.notify (c : Category) (port : Port) : Port :=
  if port.joined then { port with pendingSet := port.pendingSet ||| (port.mask &&& c.bit) } else port

/-- Raise a notice at every watching port (R158). -/
def State.raise (s : State) (c : Category) : State := s.mapPorts fun _ port => port.notify c

/-- Raise a notice if a condition calls for it. -/
def State.raiseIf (s : State) (b : Bool) (c : Category) : State := if b then s.raise c else s

/-- Raise PORTS at every port other than the one whose state changed (R158). -/
def State.raisePortsOthers (s : State) (q : PortId) : State :=
  s.mapPorts fun k port => if k = q then port else port.notify .ports

/-! ### Fault reports (R165) -/

/-- A fault record after its owning block reports its condition. -/
def FaultRecord.report (r : FaultRecord) (present : Bool) : FaultRecord :=
  if present then ⟨true, true⟩ else { r with condition := false }

/-- Whether a report raises a FAULTS notice: present with the latch clear, or a change to absent with the latch set (R165; log 13). -/
def FaultRecord.reportNotice (r : FaultRecord) (present : Bool) : Bool :=
  if present then !r.latch else r.latch && r.condition

/-! ### Resolved mute (R20) -/

/-- Whether a hold set is non-empty. -/
def HoldSet.any (h : HoldSet) : Bool := h.pod || h.room || h.call || h.link

/-- Whether a leg hold set is non-empty (R17). -/
def LegHolds.any (h : LegHolds) : Bool := h.room || h.call

/-- Whether a channel is listed and resolved-muted (R20). An unlisted channel has no resolved state. -/
def State.muted (s : State) (p : PodId) : Bool :=
  (s.pod p).listed && ((s.pod p).holds.any || s.privacy.isSome)

/-- Whether a channel is listed and resolved-unmuted (R20). -/
def State.unmuted (s : State) (p : PodId) : Bool :=
  (s.pod p).listed && !((s.pod p).holds.any || s.privacy.isSome)

/-- Whether a pod has an entry in the talker list. -/
def State.talks (s : State) (p : PodId) : Bool := s.talkers.any fun e => e.pod == p

/-! ### Values that follow the rest of the state in the same event -/

/-- The gate state an entry gives its channel (R68). -/
def TalkerState.gate : TalkerState → GateState
  | .opened => .opened
  | .hold _ => .hold
  | .last => .last

/-- The gate state of a channel: that of its entry, CLOSED without one (R68). -/
def State.gateOf (s : State) (p : PodId) : GateState :=
  match s.talkers.find? fun e => e.pod == p with
  | some e => e.state.gate
  | none => .closed

/-- The selection of a pod's indicator pattern (R55), from MA's copy `flag` of the muted-talk flag. -/
def selectPattern (listed talks muted priv flag : Bool) (mute : Nat) (holds : HoldSet) : Pattern :=
  if !listed then .dark
  else if 0 < mute then (if talks then .talking else .live)
  else if !muted then .live
  else if priv then .privateRoom
  else if flag then .mutedSpeaking
  else if holds = ⟨true, false, false, false⟩ then .mutedSelf
  else .mutedHeld

/-- The pattern of a pod, of the present state (R55); the copy of the flag is the flag as the event leaves it (R58). -/
def State.patternOf (s : State) (p : PodId) : Pattern :=
  let pod := s.pod p
  selectPattern pod.listed (s.talks p) (s.muted p) s.privacy.isSome pod.mutedTalk pod.muteEnv.now pod.holds

/-- Whether a port's attention line is asserted (R160). -/
def Port.wantsAttention (port : Port) : Bool := !port.replies.isEmpty || decide (port.pendingSet ≠ 0)

/-- The end of an event: gate states follow the talker list (R68), MA's copies follow the flags (R58), the indicator entries are recomputed (R56) and the attention lines follow the queues and pending sets (R160). A recompute that selects the value already held changes nothing (R56), so recomputing every entry is recomputing those whose inputs changed (log 7). -/
def State.settle (s : State) : State :=
  let s1 := s.mapPods fun p pod => { pod with
    gate := s.gateOf p
    flagCopy := pod.mutedTalk
    pattern := s.patternOf p }
  s1.mapPorts fun _ port => { port with attention := port.wantsAttention }

/-- A command that has taken its effect: the event ends (`settle`). -/
def finish (s : State) : Result := .next s.settle

/-! ### A change of hold sets or of the privacy record (R21, R22) -/

/-- Whether an event changed a pod hold set, a leg hold set or the privacy record (R22). -/
def holdsDiffer (before after : State) : Bool :=
  decide (before.privacy ≠ after.privacy) ||
  allPods.any (fun p => decide ((before.pod p).holds ≠ (after.pod p).holds)) ||
  allLegs.any (fun m => decide ((before.leg m).sendHolds ≠ (after.leg m).sendHolds) ||
    decide ((before.leg m).receiveHolds ≠ (after.leg m).receiveHolds))

/-- What MA does once an event has made all its changes of hold sets and of the privacy record (R21): channels that became resolved-muted leave the talker list, flags of channels that became resolved-unmuted are cleared, HOLDS is raised if anything changed (R22), and TALKERS if an entry or a flag was removed. The indicator entries follow at the end of the event. -/
def takeHoldChange (before after : State) : State :=
  let newlyMuted := fun p => before.unmuted p && after.muted p
  let newlyUnmuted := fun p => before.muted p && after.unmuted p
  let removed := after.talkers.any fun e => newlyMuted e.pod
  let cleared := allPods.any fun p => newlyUnmuted p && (after.pod p).mutedTalk
  let s1 := { after with talkers := after.talkers.filter fun e => !newlyMuted e.pod }
  let s2 := s1.mapPods fun p pod => { pod with mutedTalk := pod.mutedTalk && !newlyUnmuted p }
  (s2.raiseIf (holdsDiffer before after) .holds).raiseIf (removed || cleared) .talkers

/-! ### Leg envelopes (R51, Table 5-1) -/

/-- A leg whose E, Q and e and their previous values are forced to 0. -/
def Leg.zeroed (leg : Leg) : Leg :=
  { leg with receiveEnv := Ramp.flat 0, sendEnv := Ramp.flat 0, receiveFactor := Ramp.flat 0 }

/-- Apply a change of state `n` times, one after the other. -/
def repeatState (n : Nat) (f : State → State) (s : State) : State :=
  match n with
  | 0 => s
  | n + 1 => repeatState n f (f s)

end Sys2Proof.Machine
end

