-- ==== Sys2Proof/Machine/Flags.lean ====
section
/-! DEFINITION. Checks, codes and the reply's flags byte: CRC-8 (R149), CRC-16 (R133), the codes of Table 12-2, and the bytes of a reply frame (R152, R183). -/

namespace Sys2Proof.Machine

/-! ### Checks -/

/-- One step of the CRC-8 register: shift left, and exclusive-or 0x31 if the bit shifted out was 1 (R149). -/
def crc8Step (c : BitVec 8) : BitVec 8 := if c.msb then (c <<< 1) ^^^ 0x31#8 else c <<< 1

/-- The CRC-8 register after one byte (R149). -/
def crc8Byte (c : BitVec 8) (b : Byte) : BitVec 8 :=
  crc8Step (crc8Step (crc8Step (crc8Step (crc8Step (crc8Step (crc8Step (crc8Step (c ^^^ b))))))))

/-- The CRC-8 of a frame's bytes (R149). -/
def crc8 (bytes : List Byte) : Byte := bytes.foldl crc8Byte 0

/-- One step of the CRC-16 register with one data bit (R133). -/
def crc16Step (c : BitVec 16) (bit : Bool) : BitVec 16 :=
  if xor c.msb bit then (c <<< 1) ^^^ 0x1021#16 else c <<< 1

/-- The CRC-16 register after one byte, most significant bit first (R133). -/
def crc16Byte (c : BitVec 16) (b : Byte) : BitVec 16 :=
  [7, 6, 5, 4, 3, 2, 1, 0].foldl (fun c i => crc16Step c (b.getLsbD i)) c

/-- The CRC-16 of the data bytes of a poll or reply (R133). -/
def crc16 (bytes : List Byte) : BitVec 16 := bytes.foldl crc16Byte 0xFFFF#16

/-- The two check characters, high byte first (R133). -/
def crc16Bytes (bytes : List Byte) : List Byte :=
  [(crc16 bytes).extractLsb' 8 8, (crc16 bytes).extractLsb' 0 8]

/-! ### Numbers on the wire (R182) -/

/-- A byte of a number. -/
def byteOf (n : Nat) : Byte := BitVec.ofNat 8 n

/-- A number in `n` bytes, most significant byte first. -/
def bigEndian : Nat → Nat → List Byte
  | 0, _ => []
  | n + 1, v => byteOf (v / 256 ^ n) :: bigEndian n v

/-- The number whose bits are these, bit 0 first. -/
def numberOfBits (bits : List Bool) : Nat := bits.foldr (fun b n => 2 * n + b.toNat) 0

/-- A byte whose bits are these, bit 0 first. -/
def byteOfBits (bits : List Bool) : Byte := byteOf (numberOfBits bits)

/-! ### The data wires of a controller port (R147) -/

/-- The bits of a byte in the order a data wire carries them: most significant bit first (R147). -/
def byteLevels (b : Byte) : List Bool := (List.range 8).map fun i => b.getMsbD i

/-- The bits of bytes as a data wire carries them, one for each clock (R147). -/
def wireLevels (bytes : List Byte) : List Bool := bytes.flatMap byteLevels

/-- The bytes that the levels of a data wire carry: each eight clocks complete one (R147). DESIGN CHOICE (log 20): the bits of a last byte whose eight clocks are not complete are dropped. -/
def bytesClocked : List Bool → List Byte
  | b7 :: b6 :: b5 :: b4 :: b3 :: b2 :: b1 :: b0 :: more =>
    byteOfBits [b0, b1, b2, b3, b4, b5, b6, b7] :: bytesClocked more
  | _ => []

/-! ### Codes (Table 12-2) -/

/-- The code of a reply status. -/
def Status.code : Status → Byte
  | .done => 0x01
  | .clamped => 0x02
  | .started => 0x03
  | .refused _ => 0x04

/-- The code of a refusal reason. -/
def Reason.code : Reason → Byte
  | .notJoined => 0x01
  | .alreadyJoined => 0x02
  | .roleTaken => 0x03
  | .notPermitted => 0x04
  | .range => 0x05
  | .length => 0x06
  | .check => 0x07
  | .unknown => 0x08
  | .repeated => 0x09
  | .state => 0x0A
  | .storeBusy => 0x0B
  | .protected_ => 0x0C
  | .notInstaller => 0x0D
  | .legsActive => 0x0E

/-- The code of a role; 3 is none. -/
def roleCode : Option Role → Byte
  | some .call => 0
  | some .room => 1
  | some .view => 2
  | none => 3

/-- The role a code names. -/
def roleOfCode (n : Nat) : Option Role :=
  if n = 0 then some .call else if n = 1 then some .room else if n = 2 then some .view else none

/-- The code of a port state. -/
def PortState.code : PortState → Byte
  | .detached => 0
  | .attached => 1
  | .stale => 2
  | .absent => 3

/-- The code of a pod state. -/
def PodState.code : PodState → Byte
  | .unlisted => 0
  | .seeking => 1
  | .online => 2
  | .doubtful => 3
  | .lost => 4

/-- The code of a gate or entry state. -/
def GateState.code : GateState → Nat
  | .closed => 0
  | .opened => 1
  | .hold => 2
  | .last => 3

/-- The code of a leg state. -/
def LegState.code : LegState → Nat
  | .closed => 0
  | .opened => 1
  | .held => 2

/-- The leg state a code names. -/
def legStateOfCode (n : Nat) : Option LegState :=
  if n = 0 then some .closed else if n = 1 then some .opened else if n = 2 then some .held else none

/-- The target kinds of HOLD_ON and HOLD_OFF (R24). -/
inductive HoldTarget where
  | pods | send | receive
deriving DecidableEq, Repr

/-- The target kind a code names. -/
def holdTargetOfCode (n : Nat) : Option HoldTarget :=
  if n = 0 then some .pods else if n = 1 then some .send else if n = 2 then some .receive else none

/-- The sub-operations of ROSTER (R4). -/
inductive RosterOp where
  | list | unlist | chair | cls
deriving DecidableEq, Repr

/-- The sub-operation of ROSTER a code names. -/
def rosterOpOfCode (n : Nat) : Option RosterOp :=
  if n = 0 then some .list else if n = 1 then some .unlist else if n = 2 then some .chair
  else if n = 3 then some .cls else none

/-- Whether a CHAIR choice puts pods into the chair set (`true`) or takes them out; absent for a code that names no choice. -/
def chairChoiceOfCode (n : Nat) : Option Bool := if n = 0 then some false else if n = 1 then some true else none

/-- The kinds of GAIN (R12). -/
inductive GainKind where
  | trim | volume | legGain
deriving DecidableEq, Repr

/-- The kind of GAIN a code names. -/
def gainKindOfCode (n : Nat) : Option GainKind :=
  if n = 0 then some .trim else if n = 1 then some .volume else if n = 2 then some .legGain else none

/-- The code of a SETTER. -/
def Setter.code : Setter → Nat
  | .call => 0
  | .room => 1
  | .start => 2
  | .chair _ => 3

/-- The code of an indicator pattern. -/
def Pattern.code : Pattern → Byte
  | .dark => 0
  | .live => 1
  | .talking => 2
  | .mutedSelf => 3
  | .mutedHeld => 4
  | .mutedSpeaking => 5
  | .privateRoom => 6

/-- The code of a sync state. -/
def SyncState.code : SyncState → Byte
  | .starting => 0
  | .running => 1
  | .missing => 2

/-- The code of the store operation state. -/
def StoreOp.code : StoreOp → Byte
  | .idle => 0
  | .writing _ _ => 1
  | .committing _ => 2
  | .erasing _ _ => 3

/-- The code of the last result. -/
def StoreResult.code : StoreResult → Byte
  | .ok => 0
  | .failed => 1

/-- The hold set as a holder set (Table 12-1). -/
def HoldSet.byte (h : HoldSet) : Byte := byteOfBits [h.pod, h.room, h.call, h.link]

/-- A set of pods as the number its four bytes carry: bit p is pod p (Table 12-1). -/
def podSetWord (x : PodSet) : Nat := 2 * x.toNat

/-- A category set as a byte (Table 12-1). -/
def categoryByte (x : CategorySet) : Byte := x.setWidth 8

/-! ### Reply frames (R152, R183) -/

/-- The flags byte of a port: overrun, notices pending, port STALE (R152, Table 12-3). -/
def Port.flagsByte (port : Port) : Byte :=
  byteOfBits [port.overrun, decide (port.pendingSet ≠ 0), port.state == .stale]

/-- The reason byte, present only when the status is REFUSED (R183). -/
def Status.reasonBytes : Status → List Byte
  | .refused r => [r.code]
  | _ => []

/-- A frame closed by the CRC-8 of all bytes before it (R149). -/
def withCheck (bytes : List Byte) : List Byte := bytes ++ [crc8 bytes]

/-- The bytes of a queued reply under a flags byte (Table 12-3). -/
def Reply.frame (r : Reply) (flags : Byte) : List Byte :=
  withCheck ([r.status.code, flags, r.echo] ++ r.status.reasonBytes ++ [byteOf r.payload.length] ++ r.payload)

/-- The NONE frame of an empty reply queue (R183). -/
def noneFrame (flags : Byte) : List Byte := withCheck [0x00, flags, 0x00, 0x00]

/-- The levels of the part's data wire at `clocks` clocks: the bits of the frame, and those of 0x00 after its last byte (R147). -/
def shiftedOut (frame : List Byte) (clocks : Nat) : List Bool :=
  (wireLevels frame).take clocks ++ List.replicate (clocks - (wireLevels frame).length) false

end Sys2Proof.Machine
end

