-- ==== Sys2Proof/Machine/Samples.lean ====
section
/-! DEFINITION. The slot map and the sample format of the audio lanes (R108, R109). -/

namespace Sys2Proof.Machine

/-- The sample of a slot: its first 24 bits, as a signed value; the last 8 bits are ignored (R109). -/
def slotSample (w : BitVec 32) : Int := (w.extractLsb' 8 24).toInt

/-- The slot that carries a sample: its last 8 bits are driven as 0 (R109). -/
def sampleSlot (v : Int) : BitVec 32 := BitVec.ofInt 24 v ++ 0#8

/-- The input sample of pod channel `p`: pod lane floor((address − 1) / 8), slot (address − 1) modulo 8 (R108). -/
def podSample (l : LaneInput) (p : PodId) : Int :=
  slotSample ((l.podIn[p.val / 8]'(by omega))[p.val % 8]'(by omega))

/-- The receive sample of leg `m`: LEG_IN slot `m`; slots 4 to 7 are discarded (R108). -/
def legSample (l : LaneInput) (m : LegId) : Int := slotSample (l.legIn[m.val]'(by omega))

/-- The slots of POD_OUT `lane` for one output sample: the feed of each of its pods (R104, R108). -/
def OutputSample.podSlots (o : OutputSample) (lane : Fin 3) : List (BitVec 32) :=
  (List.finRange 8).map fun slot => sampleSlot (o.feeds[8 * lane.val + slot.val]'(by omega))

/-- The slots of LEG_OUT for one output sample: the sends in slots 0 to 3, the record output in slot 4, and 0 in slots 5 to 7 (R104, R108). -/
def OutputSample.legSlots (o : OutputSample) : List (BitVec 32) :=
  (allLegs.map fun m => sampleSlot o.sends[m]) ++ [sampleSlot o.record, 0, 0, 0]

/-! ### The wires (R109) -/

/-- The level of an output wire at a bit clock: the slots follow one another, each with its most significant bit first, and after the 256th bit clock the wire is driven to 0 (R109). -/
def slotLevel (slots : List (BitVec 32)) (clock : Nat) : Bool := (slots.getD (clock / 32) 0).getMsbD (clock % 32)

/-- The levels of the output wires at the bit clocks of one sample period that carries an output sample (R109). -/
def OutputSample.levels (o : OutputSample) (clocks : Nat) : List LaneLevels :=
  (List.range clocks).map fun clock =>
    ⟨Vector.ofFn fun lane => slotLevel (o.podSlots lane) clock, slotLevel o.legSlots clock⟩

/-- The 32 bits of a slot on an input wire, given the wire's levels at the bit clocks of a sample period (R109). -/
def slotWord (levels : List Bool) (slot : Nat) : BitVec 32 :=
  BitVec.ofNat 32 (numberOfBits ((levels.drop (32 * slot)).take 32).reverse)

/-- The input slots that the bit clocks of a sample period shift in; bit clocks after the 256th are ignored (R109). -/
def slotsClocked (clocks : List LaneClock) : LaneInput where
  podIn := Vector.ofFn fun lane => Vector.ofFn fun slot => slotWord (clocks.map fun c => c.podIn[lane]) slot.val
  legIn := Vector.ofFn fun slot => slotWord (clocks.map LaneClock.legIn) slot.val

/-- The samples of a pod channel in a frame. -/
def WorkFrame.podSamples (w : WorkFrame) (p : PodId) : List Int := w.samples.map fun l => podSample l p

end Sys2Proof.Machine
end

