-- ==== Sys2Proof/Machine/Gate.lean ====
section
/-! DEFINITION. The gate engine (chapter 4): level tracking (R63 to R66), the talker list (R67 to R72), admission and displacement (R73 to R77), limit cuts (R15), the muted-talk flags (R80) and the frame work (R61). -/

namespace Sys2Proof.Machine

/-! ### Level, floor and qualification -/

/-- The highest level and floor (R62). -/
def maxLevel : Nat := 8388608

/-- The peak of a frame: the largest absolute value among its samples (R63). -/
def peak (xs : List Int) : Nat := xs.foldl (fun m x => max m x.natAbs) 0

/-- The new level L′ (R63). -/
def nextLevel (level pk : Nat) : Nat := if level < pk then pk else level - level / 64

/-- The threshold a level must exceed to qualify (R64). -/
def threshold (t : Tuning) (floor : Nat) : Nat := max t.absThreshold (floor * 2 ^ t.marginShift)

/-- The new floor F′ (R65). -/
def nextFloor (floor level' : Nat) : Nat :=
  if level' < floor then level' else min maxLevel (floor + floor / 16384 + 1)

/-- Whether a frame is a clip frame (R66). -/
def isClipFrame (xs : List Int) : Bool := xs.any fun x => x == -8388608 || x == 8388607

/-- What the tracking part finds for a channel (R61, part 1). -/
structure Tracked where
  level : Nat
  floor : Nat
  qualifies : Bool
  clip : Bool
deriving DecidableEq, Repr

/-- The tracking of one channel; an unlisted one is not tracked (R60, R62 to R66). -/
def trackPod (t : Tuning) (pod : Pod) (xs : List Int) : Tracked :=
  if pod.listed then
    let l := nextLevel pod.level (peak xs)
    ⟨l, nextFloor pod.floor l, decide (threshold t pod.floor < l), isClipFrame xs⟩
  else ⟨pod.level, pod.floor, false, false⟩

/-! ### The talker list -/

/-- An expiring entry: it leaves, or becomes LAST under LAST_ON 1 when it is the only entry (R70). -/
def expireEntry (t : Tuning) (alone : Bool) (e : Talker) : Option Talker :=
  if t.lastOn = 1 ∧ alone then some { e with state := .last } else none

/-- One entry in the entries part (R69 to R72, Table 4-2). -/
def passEntry (t : Tuning) (qualifies alone : Bool) (e : Talker) : Option Talker :=
  if qualifies then some { e with state := .opened }
  else match e.state with
    | .opened => if t.gateHold = 0 then expireEntry t alone e else some { e with state := .hold t.gateHold }
    | .hold r => if r ≤ 1 then expireEntry t alone e else some { e with state := .hold (r - 1) }
    | .last => some e

/-- The entries part, from the head of the list: `kept` are the entries already passed and still present, so an entry is alone when nothing was kept and nothing follows (R61, part 2; R70). -/
def passEntries (t : Tuning) (qualifies : PodId → Bool) (kept : List Talker) : List Talker → List Talker
  | [] => kept
  | e :: rest =>
    passEntries t qualifies (kept ++ (passEntry t (qualifies e.pod) (kept.isEmpty && rest.isEmpty) e).toList) rest

/-- The list without a pod's entry; the others keep their order (R67). -/
def withoutPod (l : List Talker) (p : PodId) : List Talker := l.filter fun e => e.pod != p

/-- The entry of the lowest class; among equal classes the oldest. -/
def lowestOldest : List Talker → Option Talker
  | [] => none
  | e :: es =>
    match lowestOldest es with
    | none => some e
    | some m => if m.cls < e.cls then some m else some e

/-- The entry of the lowest class; among equal classes the newest. -/
def lowestNewest : List Talker → Option Talker
  | [] => none
  | e :: es =>
    match lowestNewest es with
    | none => some e
    | some m => if m.cls ≤ e.cls then some m else some e

/-- Whether an entry is OPEN. -/
def Talker.isOpen (e : Talker) : Bool := e.state == .opened

/-- Whether an entry is LAST. -/
def Talker.isLast (e : Talker) : Bool := e.state == .last

/-- Whether an entry is in HOLD. -/
def Talker.isHold (e : Talker) : Bool := !e.isOpen && !e.isLast

/-- The entry the limit cut takes next: HOLD and LAST entries first, lowest class and oldest; then OPEN entries, lowest class and newest (R15). -/
def cutVictim (l : List Talker) : Option Talker :=
  match lowestOldest (l.filter fun e => !e.isOpen) with
  | some v => some v
  | none => lowestNewest l

/-- The limit cut: entries leave until the count equals the limit (R15). `fuel` is the most entries that can leave. -/
def limitCut (limit : Nat) : Nat → List Talker → List Talker
  | 0, l => l
  | fuel + 1, l =>
    if l.length ≤ limit then l
    else match cutVictim l with
      | none => l
      | some v => limitCut limit fuel (withoutPod l v.pod)

/-! ### Admission -/

/-- A channel that competes for a place (R73). -/
structure Candidate where
  pod : PodId
  cls : Nat
  level : Nat
deriving DecidableEq, Repr

/-- Whether `a` ranks before `b`: by class, then level, highest first, then pod address, lowest first (R73). -/
def Candidate.before (a b : Candidate) : Bool :=
  decide (b.cls < a.cls) ||
  (a.cls == b.cls && (decide (b.level < a.level) || (a.level == b.level && decide (a.pod < b.pod))))

/-- Insert a candidate in rank order. -/
def insertCandidate (c : Candidate) : List Candidate → List Candidate
  | [] => [c]
  | d :: ds => if c.before d then c :: d :: ds else d :: insertCandidate c ds

/-- The candidates in rank order (R73). -/
def rankCandidates (cs : List Candidate) : List Candidate := cs.foldr insertCandidate []

/-- The entry that a candidate meeting a full list displaces: the LAST entry (R75), else the HOLD entry of the lowest class, oldest first (R75), else the OPEN entry of the lowest class strictly below the candidate's, newest first (R76). -/
def displaced (l : List Talker) (cls : Nat) : Option Talker :=
  match l.find? Talker.isLast with
  | some v => some v
  | none =>
    match lowestOldest (l.filter Talker.isHold) with
    | some v => some v
    | none => lowestNewest (l.filter fun e => decide (e.cls < cls))

/-- The OPEN entry of an admitted candidate (R74). -/
def Candidate.entry (c : Candidate) (count : BitVec 32) : Talker := ⟨c.pod, .opened, c.cls, count⟩

/-- One candidate meets the list as those before it left it (R74 to R77). -/
def seatCandidate (limit : Nat) (count : BitVec 32) (l : List Talker) (c : Candidate) : List Talker :=
  if l.length < limit then l ++ [c.entry count]
  else match displaced l c.cls with
    | none => l
    | some v => withoutPod l v.pod ++ [c.entry count]

/-! ### The frame work -/

/-- Whether the entry states or the membership of two talker lists differ (R84); remaining holds do not count. -/
def talkersDiffer (l l' : List Talker) : Bool :=
  decide (l.map (fun e => (e.pod, e.state.gate)) ≠ l'.map (fun e => (e.pod, e.state.gate)))

/-- The frame work of a complete input frame (R61): the raised frame count (R60), tracking, entries, admission, muted-talk flags and hand-offs. The indicator entries follow at the end of the event. -/
def frameWorkOn (w : WorkFrame) (s : State) : State :=
  let count := s.frameCount + 1
  let tracked : Vector Tracked 24 := Vector.ofFn fun p => trackPod s.tuning (s.pod p) (w.podSamples p)
  let qualifies : PodId → Bool := fun p => tracked[p].qualifies
  let passed := passEntries s.tuning qualifies [] s.talkers
  let candidates := (allPods.filter fun p => qualifies p && s.unmuted p && !(passed.any fun e => e.pod == p)).map
    fun p => (⟨p, (s.pod p).cls, tracked[p].level⟩ : Candidate)
  let talkers := (rankCandidates candidates).foldl (seatCandidate s.tuning.openLimit count) passed
  let flag : PodId → Bool := fun p => if (s.pod p).listed then qualifies p && s.muted p else (s.pod p).mutedTalk
  let s1 := { s with frameCount := count, talkers := talkers }
  let s2 := s1.mapPods fun p pod =>
    { pod with
      level := tracked[p].level
      floor := tracked[p].floor
      mutedTalk := flag p
      podClip := if pod.listed then pod.podClip.report tracked[p].clip else pod.podClip }
  let clipNotice := allPods.any fun p => (s.pod p).listed && (s.pod p).podClip.reportNotice tracked[p].clip
  let flagChanged := allPods.any fun p => (s.pod p).mutedTalk != flag p
  (s2.raiseIf clipNotice .faults).raiseIf (talkersDiffer s.talkers talkers || flagChanged) .talkers

/-- GE takes its frame event for the frame AL has handed, which then goes to ME (R60, R61). -/
def runFrameWork (s : State) : State :=
  match s.gateInput with
  | none => s
  | some w => ({ frameWorkOn w s with gateInput := none, mixInput := some w }).settle

/-- FRAME_WORK (R61). With no complete frame handed, GE takes no frame event (R60; log 3). -/
def execFrameWork (s : State) : Result := .next (runFrameWork s)

end Sys2Proof.Machine
end

