-- ==== Sys2Proof/Machine/Operands.lean ====
section
/-! DEFINITION. What the operand bytes of a request mean (R182, Tables 12-1, 12-2 and 12-4), the ranges and clamping of R5, and which row of the opcode table a request frame is. -/

namespace Sys2Proof.Machine

/-! ### Operands -/

/-- The number that bytes carry, most significant byte first (R182). -/
def number (bytes : List Byte) : Nat := bytes.foldl (fun n b => 256 * n + b.toNat) 0

/-- Whether a pod set or leg set that is the last operand has one of the lengths it may take (R182). -/
def isSetLength (n : Nat) : Bool := 1 ≤ n && n ≤ 4

/-- The pods a set operand names; the bits that name no pod 1 to 24 are dropped (R5, Table 12-1). -/
def podsNamed (word : Nat) : PodSet := BitVec.ofNat 24 (word / 2)

/-- The legs a set operand names; the bits that name no leg 0 to 3 are dropped (R24, Table 12-1). -/
def legsNamed (word : Nat) : BitVec 4 := BitVec.ofNat 4 word

/-- DONE when what was applied is what was asked for, CLAMPED otherwise (R5, R24). -/
def doneIf (same : Bool) : Status := if same then .done else .clamped

/-! ### Tuning parameters (Table 1-2) -/

/-- The tuning parameters by name. -/
inductive Param where
  | openLimit | marginShift | absThreshold | gateHold | attack | release | offGain | lastOn
  | muteRamp | reinforce | presence | missLimit | podOverride | flush | startPrivate
deriving DecidableEq, Repr

/-- The parameter of an id 1 to 15 (R3). -/
def paramOfId (id : Nat) : Option Param :=
  [Param.openLimit, .marginShift, .absThreshold, .gateHold, .attack, .release, .offGain, .lastOn,
   .muteRamp, .reinforce, .presence, .missLimit, .podOverride, .flush, .startPrivate][id - 1]?.filter fun _ => 1 ≤ id

/-- The range of a parameter (Table 1-2). FLUSH is a flag set, not a range: its bound is that of its five bits. -/
def Param.range : Param → Nat × Nat
  | .openLimit => (1, 8)
  | .marginShift => (1, 3)
  | .absThreshold => (0, 1048576)
  | .gateHold => (0, 2000)
  | .attack => (1, 16)
  | .release => (1, 500)
  | .offGain => (0, 65536)
  | .lastOn => (0, 1)
  | .muteRamp => (1, 64)
  | .reinforce => (0, 65536)
  | .presence => (0, 2)
  | .missLimit => (2, 8)
  | .podOverride => (0, 1)
  | .flush => (0, 31)
  | .startPrivate => (0, 1)

/-- The clamped value of a parameter: a number takes the nearest bound, a flag set loses the members that name no flag (R5, R13). -/
def Param.clamp (p : Param) (v : Nat) : Nat :=
  match p with
  | .flush => v % 32
  | _ => min p.range.2 (max p.range.1 v)

/-- The value held for a parameter. -/
def Tuning.get (t : Tuning) : Param → Nat
  | .openLimit => t.openLimit
  | .marginShift => t.marginShift
  | .absThreshold => t.absThreshold
  | .gateHold => t.gateHold
  | .attack => t.attack
  | .release => t.release
  | .offGain => t.offGain
  | .lastOn => t.lastOn
  | .muteRamp => t.muteRamp
  | .reinforce => t.reinforce
  | .presence => t.presence
  | .missLimit => t.missLimit
  | .podOverride => t.podOverride
  | .flush => t.flush.toNat
  | .startPrivate => t.startPrivate

/-- The parameters with one replaced. -/
def Tuning.set (t : Tuning) (p : Param) (v : Nat) : Tuning :=
  match p with
  | .openLimit => { t with openLimit := v }
  | .marginShift => { t with marginShift := v }
  | .absThreshold => { t with absThreshold := v }
  | .gateHold => { t with gateHold := v }
  | .attack => { t with attack := v }
  | .release => { t with release := v }
  | .offGain => { t with offGain := v }
  | .lastOn => { t with lastOn := v }
  | .muteRamp => { t with muteRamp := v }
  | .reinforce => { t with reinforce := v }
  | .presence => { t with presence := v }
  | .missLimit => { t with missLimit := v }
  | .podOverride => { t with podOverride := v }
  | .flush => { t with flush := BitVec.ofNat 5 v }
  | .startPrivate => { t with startPrivate := v }

/-- The upper bound of a trim and of a leg gain (Table 1-1). -/
def maxTrim : Nat := 131072

/-- Unity, and the upper bound of a pod volume (Table 1-1). -/
def unity : Nat := 65536

/-- The highest priority class (Table 1-1). -/
def maxClass : Nat := 3

/-- The flags of FLUSH (Table 12-1). -/
def Tuning.closeDropLegHolds (t : Tuning) : Bool := t.flush.getLsbD 0
/-- See `Tuning.closeDropLegHolds`. -/
def Tuning.lastCloseDropCallHolds (t : Tuning) : Bool := t.flush.getLsbD 1
/-- See `Tuning.closeDropLegHolds`. -/
def Tuning.lastCloseDropPodHolds (t : Tuning) : Bool := t.flush.getLsbD 2
/-- See `Tuning.closeDropLegHolds`. -/
def Tuning.lastCloseEndPrivacy (t : Tuning) : Bool := t.flush.getLsbD 3
/-- See `Tuning.closeDropLegHolds`. -/
def Tuning.firstOpenMutePods (t : Tuning) : Bool := t.flush.getLsbD 4

/-! ### Which row of the opcode table a frame is -/

/-- The request rows of the opcode table. -/
inductive RequestRow where
  | badFrame | unknown
  | join | leave | pulse | notices | watch | ident
  | holdOnPods | holdOnLegs | holdOff | releaseAll | privacyOn | privacyOff
  | legState
  | gainTrim | gainVolume | gainLegGain | tuneSet | tuneQuery
  | rosterList | rosterUnlist | rosterChair | rosterClass | exclude
  | readChannel | readTalkers | readLegs | readPorts | readFaults | readRoom | clearFaults
  | storeRead | storeStatus | storeWrite | storeCommit | storeErase | profileLoad
deriving DecidableEq, Repr

/-- The kind or sub-operation byte of a request, absent from a request without operands. -/
def kindOf (operands : List Byte) : Option Nat := operands.head?.map BitVec.toNat

/-- The row of a good frame. A request of several rows is told apart by its kind, sub-operation or operand count; one whose form is wrong belongs to the first row of its code that its kind byte does not rule out, and is refused there (log 9). -/
def rowOfCode (code : Nat) (operands : List Byte) : RequestRow :=
  if code = 0x01 then .join
  else if code = 0x02 then .leave
  else if code = 0x03 then .pulse
  else if code = 0x04 then .notices
  else if code = 0x05 then .watch
  else if code = 0x06 then .ident
  else if code = 0x10 then
    (match (kindOf operands).bind holdTargetOfCode with
     | some .send => .holdOnLegs
     | some .receive => .holdOnLegs
     | _ => .holdOnPods)
  else if code = 0x11 then .holdOff
  else if code = 0x12 then .releaseAll
  else if code = 0x13 then .privacyOn
  else if code = 0x14 then .privacyOff
  else if code = 0x20 then .legState
  else if code = 0x30 then
    (match (kindOf operands).bind gainKindOfCode with
     | some .volume => .gainVolume
     | some .legGain => .gainLegGain
     | _ => .gainTrim)
  else if code = 0x31 then (if operands.length = 1 then .tuneQuery else .tuneSet)
  else if code = 0x32 then
    (match (kindOf operands).bind rosterOpOfCode with
     | some .unlist => .rosterUnlist
     | some .chair => .rosterChair
     | some .cls => .rosterClass
     | _ => .rosterList)
  else if code = 0x33 then .exclude
  else if code = 0x40 then .readChannel
  else if code = 0x41 then .readTalkers
  else if code = 0x42 then .readLegs
  else if code = 0x43 then .readPorts
  else if code = 0x44 then .readFaults
  else if code = 0x45 then .clearFaults
  else if code = 0x46 then .readRoom
  else if code = 0x50 then .storeRead
  else if code = 0x51 then .storeWrite
  else if code = 0x52 then .storeCommit
  else if code = 0x53 then .storeErase
  else if code = 0x54 then .storeStatus
  else if code = 0x55 then .profileLoad
  else .unknown

/-- The row of a frame of a request queue, in the order of R151. -/
def RequestFrame.row (f : RequestFrame) : RequestRow :=
  if f.bad.isSome then .badFrame else rowOfCode f.code.toNat f.operands

/-! ### Answers -/

/-- What an executed request answers (R152). A refused one answers its reason instead. -/
structure Answer where
  status : Status
  payload : List Byte
deriving DecidableEq, Repr

/-- What a request does at its turn: refused with a reason, when nothing changes (R163), or its answer and the state it leaves. -/
abbrev Outcome := Except Reason (Answer × State)

/-- A request that is executed as asked. -/
def answerDone (payload : List Byte) (s : State) : Outcome := .ok (⟨.done, payload⟩, s)

/-- A request that is executed, DONE or CLAMPED. -/
def answerApplied (same : Bool) (payload : List Byte) (s : State) : Outcome := .ok (⟨doneIf same, payload⟩, s)

/-- A request that is refused. -/
def refuse (r : Reason) : Outcome := .error r

/-- Run a request's next check: refuse with the reason unless the check holds. -/
def ensure (holds : Bool) (r : Reason) (k : Outcome) : Outcome := if holds then k else refuse r

/-- The role a port holds is one of these (Table 9-3). -/
def State.roleIn (s : State) (q : PortId) (roles : List Role) : Bool :=
  match (s.port q).role with
  | some r => roles.contains r
  | none => false

end Sys2Proof.Machine
end

