-- ==== Sys2Proof/Machine/Mix.lean ====
section
/-! DEFINITION. The mix engine (chapters 3 and 5): envelope steps and targets (R45 to R49), roundings (R89 to R91), frame gains (R93 to R96), interpolation (R97), sums (R98 to R100) and outputs (R101 to R104). -/

namespace Sys2Proof.Machine

/-! ### Roundings -/

/-- The half-up product of two gains (R89). -/
def halfUp (a b : Nat) : Nat := (a * b + 32768) / 65536

/-- The nearest, ties away from zero, shift of a signed value by `n` bits (R90). -/
def shiftNearest (v : Int) (n : Nat) : Int := v.sign * (((v.natAbs + 2 ^ (n - 1)) / 2 ^ n : Nat) : Int)

/-- The lowest sample (00, "Samples"). -/
def minSample : Int := -8388608

/-- The highest sample (00, "Samples"). -/
def maxSample : Int := 8388607

/-- To saturate a value is to clamp it to the sample range (R91). -/
def saturate (v : Int) : Int := if maxSample < v then maxSample else if v < minSample then minSample else v

/-! ### Envelopes -/

/-- The step of a parameter given in frames: ceil(65,536 / frames) (R45). -/
def rampStep (frames : Nat) : Nat := (65536 + frames - 1) / frames

/-- One step of an envelope toward its target (R46). -/
def Ramp.toward (r : Ramp) (target step : Nat) : Ramp where
  prev := r.now
  now :=
    if r.now < target then min target (r.now + step)
    else if target < r.now then max target (r.now - step) else r.now

/-- A frame gain that takes its present value at a mix frame event (R87, stages 1 and 3). -/
def Ramp.slideTo (r : Ramp) (v : Nat) : Ramp := ⟨r.now, v⟩

/-- The step of a gate envelope: ATTACK below its target, RELEASE above it (R45). -/
def gateStep (t : Tuning) (r : Ramp) (target : Nat) : Nat :=
  if r.now < target then rampStep t.attack else rampStep t.release

/-- The NOM factor target of a NOM count (R83, Table 4-5). -/
def nomTarget (n : Nat) : Nat :=
  match n with
  | 0 => 65536
  | 1 => 65536
  | 2 => 46341
  | 3 => 37837
  | 4 => 32768
  | 5 => 29309
  | 6 => 26755
  | 7 => 24770
  | _ => 23170

/-- The target of a channel's mute envelope (R47). -/
def State.muteTarget (s : State) (p : PodId) : Nat := if s.unmuted p then unity else 0

/-- The target of a channel's gate envelope (R48). -/
def State.gateTarget (s : State) (p : PodId) : Nat := if s.talks p then unity else s.tuning.offGain

/-- The target of a leg's receive envelope (R49). -/
def Leg.receiveTarget (leg : Leg) : Nat := if leg.state = .opened ∧ !leg.receiveHolds.any then unity else 0

/-- The target of a leg's send envelope (R49). -/
def Leg.sendTarget (leg : Leg) : Nat := if leg.state = .opened ∧ !leg.sendHolds.any then unity else 0

/-- Stages 1 to 3 for a pod: envelopes and frame gains (R46 to R48, R87, R93, R96). The contribution gain slides from the value on which the last computed frame ended (R97; log 12). The M, G and c of an unlisted channel are not stepped. -/
def State.stepPod (s : State) (p : PodId) (pod : Pod) : Pod :=
  let slid := { pod with volumeGain := pod.volumeGain.slideTo pod.volume }
  if pod.listed then
    let m := pod.muteEnv.toward (s.muteTarget p) (rampStep s.tuning.muteRamp)
    let g := pod.gateEnv.toward (s.gateTarget p) (gateStep s.tuning pod.gateEnv (s.gateTarget p))
    let c := halfUp (halfUp pod.trim m.now) g.now
    { slid with muteEnv := m, gateEnv := g, contrib := ⟨pod.contribEnd, c⟩, contribEnd := c }
  else slid

/-- Stages 1 to 3 for a leg (R46, R49, R87, R95). -/
def State.stepLeg (s : State) (leg : Leg) : Leg :=
  let e := leg.receiveEnv.toward leg.receiveTarget (rampStep s.tuning.muteRamp)
  let q := leg.sendEnv.toward leg.sendTarget (rampStep s.tuning.muteRamp)
  { leg with receiveEnv := e, sendEnv := q, receiveFactor := leg.receiveFactor.slideTo (halfUp leg.gain e.now) }

/-- Stages 1 to 3 of the mix frame event (R87). -/
def State.stepGains (s : State) : State :=
  let s1 := (s.mapPods s.stepPod).mapLegs fun _ leg => s.stepLeg leg
  { s1 with
    nomGain := s.nomGain.slideTo (nomTarget s.talkers.length)
    reinforceGain := s.reinforceGain.slideTo s.tuning.reinforce }

/-! ### Samples -/

/-- The interpolated value of a frame gain at sample `k` (R97). -/
def Ramp.at (r : Ramp) (k : Nat) : Int :=
  (r.prev : Int) + Int.tdiv (((r.now : Int) - (r.prev : Int)) * ((k : Int) + 1)) 48

/-- The term of channel `p` in the room sum: the input of an unlisted channel is taken as 0 (R98). -/
def State.podTerm (s : State) (l : LaneInput) (k : Nat) (p : PodId) : Int :=
  if (s.pod p).listed then podSample l p * (s.pod p).contrib.at k else 0

/-- The term of leg `m` in the leg bridge: the receive sample of a CLOSED leg is taken as 0 (R100). -/
def State.legTerm (s : State) (l : LaneInput) (k : Nat) (m : LegId) : Int :=
  if (s.leg m).state = .closed then 0 else legSample l m * (s.leg m).receiveFactor.at k

/-- The room sum S (R98), of the channels' terms. -/
def roomSum (terms : Vector Int 24) : Int := (allPods.map fun p => terms[p]).sum

/-- The reinforcement sum S_p of a pod with this exclusion set (R99). -/
def reinforcementSum (terms : Vector Int 24) (excl : PodSet) : Int :=
  ((allPods.filter fun i => !PodSet.has excl i).map fun i => terms[i]).sum

/-- The leg bridge B (R100), of the legs' terms. -/
def legBridge (terms : Vector Int 4) : Int := (allLegs.map fun m => terms[m]).sum

/-- The send to a leg with send factor `q` and own term `own` (R101). -/
def sendSample (q room nom bridge own : Int) : Int :=
  saturate (shiftNearest (q * (room * nom + 65536 * (bridge - own))) 48)

/-- The record output (R102). -/
def recordSample (room nom bridge : Int) : Int := saturate (shiftNearest (room * nom + 65536 * bridge) 32)

/-- The feed to a listed pod (R103). -/
def feedSample (u bridge v reinforcement : Int) : Int :=
  saturate (shiftNearest (u * (65536 * bridge + v * reinforcement)) 48)

/-- The 29 outputs of sample `k` (R101 to R103, Table 5-4), from the gains of the event. -/
def State.outputSample (s : State) (l : LaneInput) (k : Nat) : OutputSample :=
  let podTerms : Vector Int 24 := Vector.ofFn fun p => s.podTerm l k p
  let legTerms : Vector Int 4 := Vector.ofFn fun m => s.legTerm l k m
  let room := roomSum podTerms
  let bridge := legBridge legTerms
  let nom := s.nomGain.at k
  let v := s.reinforceGain.at k
  { sends := Vector.ofFn fun m => sendSample ((s.leg m).sendEnv.at k) room nom bridge legTerms[m]
    record := recordSample room nom bridge
    feeds := Vector.ofFn fun p =>
      if (s.pod p).listed then
        feedSample ((s.pod p).volumeGain.at k) bridge v (reinforcementSum podTerms (s.pod p).excl)
      else 0 }

/-- The outputs of a frame (R87, stage 4). -/
def State.outputFrame (s : State) (w : WorkFrame) : List OutputSample :=
  w.samples.mapIdx fun k l => s.outputSample l k

/-- The mix frame event on a frame (R87): gains, samples, and the hand-off to AL (R104); the output of a frame whose period the lanes broke off is not carried (R112). The indicator entries follow at the end of the event (R57). -/
def mixOn (w : WorkFrame) (s : State) : State :=
  let s1 := s.stepGains
  if w.deliver then { s1 with waiting := some (s1.outputFrame w) } else s1

/-- ME takes its frame event for the frame whose frame work is complete (R86). -/
def runMix (s : State) : State :=
  match s.mixInput with
  | none => s
  | some w => ({ mixOn w s with mixInput := none }).settle

/-- MIX_FRAME_EVENT (R87). With no frame worked at GE, ME takes no mix frame event (R86; log 3). -/
def execMixFrameEvent (s : State) : Result := .next (runMix s)

end Sys2Proof.Machine
end

