-- ==== Sys2Proof/Machine/Lanes.lean ====
section
/-! DEFINITION. The audio lanes (chapter 6): complete sample periods and frame boundaries (R110, R111), short periods (R112), the watchdog (R113, R114) and the soft start (R115). -/

namespace Sys2Proof.Machine

/-- The sample periods of an audio frame (R110). -/
def frameLength : Nat := 48

/-- Report AUDIO_CLOCK (R167). -/
def State.reportClock (s : State) (present : Bool) : State :=
  { s with audioClock := s.audioClock.report present }.raiseIf (s.audioClock.reportNotice present) .faults

/-- Frame events that are still to come when the next event of AL takes it for granted that they have been taken: the mix engine hands the output of frame n within the frame period of frame n+1 (R111), and no frame work is taken while the sync state is MISSING (R114). They are taken here (log 11). -/
def overdueFrames (s : State) : State := runMix (runFrameWork (runMix s))

/-- What the output wires carry at the bit clocks of the sample period with sample `k` of the frame in progress; 0 without one (R111). -/
def levelsAt (frame : Option (List OutputSample)) (k clocks : Nat) : List LaneLevels :=
  match frame.bind fun f => f[k]? with
  | none => silentFor clocks
  | some o => o.levels clocks

/-- What the output wires carry at the first `clocks` bit clocks of the sample period under way (R109, R111, R114). -/
def State.levelsFor (s : State) (clocks : Nat) : List LaneLevels :=
  s.underway ++ (levelsAt s.inProgress s.assembly.length clocks).drop s.underway.length

/-- The bit clocks of the sample period under way that had arrived when the lanes broke off: fewer than 256 (R112), a free value beyond that (log 21). -/
def State.clocksArrived (s : State) : Nat :=
  s.underway.length + Config.clocksArrived s.freeCount % (periodClocks - s.underway.length)

/-- The soft start (R52, R79, R106, R115): ME's envelopes and gains, GE's trackers, list and flags; a TALKERS notice is raised. -/
def softStart (s : State) : State :=
  let s1 := s.mapPods fun _ pod =>
    { pod with muteEnv := Ramp.flat 0, gateEnv := Ramp.flat 0, contrib := Ramp.flat 0, contribEnd := 0
               level := 0, floor := 0, mutedTalk := false }
  let s2 := s1.mapLegs fun _ leg => leg.zeroed
  { s2 with nomGain := Ramp.flat unity, talkers := [] }.raise .talkers

/-- What the first complete frame does to the sync state: RUNNING from STARTING without a soft start (R113), and from MISSING with the watchdog restarted, AUDIO_CLOCK absent and the soft start (R115). -/
def takeSync (s : State) : State :=
  match s.sync with
  | .running => s
  | .starting => { s with sync := .running }
  | .missing => softStart ({ s with sync := .running, watchdog := true }.reportClock false)

/-- A frame boundary: the waiting output frame becomes the one in progress (R111), and the complete input frame is handed to GE (R110). -/
def frameBoundary (frame : List LaneInput) (s : State) : State :=
  let s1 := overdueFrames s
  let s2 := takeSync { s1 with inProgress := s1.waiting, waiting := none, assembly := [] }
  { s2 with gateInput := some ⟨frame, true⟩ }.settle

/-- A complete sample period (R109, R110): output sample k leaves as input sample k is placed (R111), and the 48th completes the frame. The watchdog is restarted, which leaves it running; in MISSING it stays stopped until the return (R113). -/
def samplePeriod (clocks : List LaneClock) (s : State) : State :=
  let s1 := { s with lanesOut := s.levelsFor clocks.length, underway := [] }
  let frame := s.assembly ++ [slotsClocked clocks]
  if frame.length < frameLength then { s1 with assembly := frame } else frameBoundary frame s1

/-- SAMPLE_PERIOD_COMPLETE (R110). A period of fewer than 256 bit clocks is not complete (R109): its end is a SHORT_PERIOD (R112; log 3). -/
def execSamplePeriodComplete (clocks : List LaneClock) (s : State) : Result :=
  .next (if periodClocks ≤ clocks.length then samplePeriod clocks s else s)

/-- A frame under way at GE or ME whose output is no longer to be carried: the output wires carry 0 until the first frame of the new assembly has been computed (R112). -/
def WorkFrame.undelivered (w : WorkFrame) : WorkFrame := { w with deliver := false }

/-- The lanes break off: the frame in assembly and both computed output frames are discarded, so that the output wires carry 0 from here on (R112, R114). -/
def breakOff (s : State) : State :=
  { s with
    assembly := []
    waiting := none
    inProgress := none
    gateInput := s.gateInput.map WorkFrame.undelivered
    mixInput := s.mixInput.map WorkFrame.undelivered
    freeCount := s.freeCount + 1 }

/-- SHORT_PERIOD (R112): the period has ended before its 256th bit clock, and the wires have carried its slots up to there. -/
def execShortPeriod (s : State) : Result :=
  .next { breakOff s with lanesOut := s.levelsFor s.clocksArrived, underway := [] }

/-- WATCHDOG_EXPIRY (R114): the running out of the watchdog in STARTING or RUNNING. The sample period under way goes on, with 0 on the output wires. In MISSING the watchdog does not run (R113; log 3). -/
def execWatchdogExpiry (s : State) : Result :=
  if s.watchdog then
    finish (({ breakOff (overdueFrames s) with
      underway := s.levelsFor s.clocksArrived, sync := .missing, watchdog := false }).reportClock true)
  else .next s

end Sys2Proof.Machine
end

