-- ==== Sys2Proof/Machine/Turn.lean ====
section
/-! DEFINITION. The turn of the frame at the head of a port's request queue (R151): the one operation through which every request is taken and answered, and the two answers CP gives itself. -/

namespace Sys2Proof.Machine

/-- What a row does with its frame, at a port. -/
abbrev Request := PortId → RequestFrame → State → Outcome

/-- The rows that a port in DETACHED or ABSENT is not refused NOT_JOINED for (R151, in its order: bad frames and unknown codes are answered first). -/
def RequestRow.openToAll : RequestRow → Bool
  | .badFrame | .unknown | .join | .ident => true
  | _ => false

/-- The most replies a port's reply queue holds (R151). -/
def replyLimit : Nat := 4

/-- The most frames a port's request queue holds (R150). -/
def requestLimit : Nat := 2

/-- A reply joins the tail of a port's reply queue (R151). -/
def State.queueReply (s : State) (q : PortId) (r : Reply) : State :=
  s.modPort q fun port => { port with replies := port.replies ++ [r] }

/-- The outcome of a frame: NOT_JOINED from a port that holds no role (R151), else what its row does. -/
def outcomeOf (row : RequestRow) (request : Request) (q : PortId) (f : RequestFrame) (s : State) : Outcome :=
  ensure (row.openToAll || (s.port q).joined) .notJoined (request q f s)

/-- The state and the reply that an outcome leaves: a refused request changes nothing and its payload is empty (R163); the reply echoes the command byte (R183). -/
def State.answer (s : State) (q : PortId) (f : RequestFrame) : Outcome → State
  | .error r => s.queueReply q ⟨.refused r, f.code, []⟩
  | .ok (a, s2) => s2.queueReply q ⟨a.status, f.code, a.payload⟩

/-- Take the head frame of a port's request queue, if it is a frame of this row and the reply queue has room: the frame leaves the queue, the request's effects are made, and one reply joins the reply queue (R151). Otherwise the event does not come about and the state stands (log 3). -/
def takeTurn (row : RequestRow) (request : Request) (q : PortId) (s : State) : State :=
  match (s.port q).requests with
  | [] => s
  | f :: rest =>
    if (s.port q).replies.length < replyLimit ∧ f.row = row then
      let s1 := s.modPort q fun port => { port with requests := rest }
      (s1.answer q f (outcomeOf row request q f s1)).settle
    else s

/-- A bad frame is not executed; it is answered REFUSED with its reason (R149, R151). -/
def requestBadFrame : Request := fun _ f _ => refuse (f.bad.getD .length)

/-- BAD_FRAME (R151). -/
def execBadFrame (q : PortId) (s : State) : Result := .next (takeTurn .badFrame requestBadFrame q s)

/-- A command byte that is none of the codes of Table 9-3 is answered REFUSED with UNKNOWN (R151). -/
def requestUnknown : Request := fun _ _ _ => refuse .unknown

/-- UNKNOWN (R151). -/
def execUnknown (q : PortId) (s : State) : Result := .next (takeTurn .unknown requestUnknown q s)

end Sys2Proof.Machine
end

