-- ==== Sys2Proof/Machine/Mute.lean ====
section
/-! DEFINITION. The mute authority (chapter 2): the hold and privacy requests (R24 to R30) and the presses of pods (R32 to R36). -/

namespace Sys2Proof.Machine

/-- A hold set with the entry of a role added; VIEW places no holds (R16, R18). -/
def HoldSet.addRole (h : HoldSet) : Option Role → HoldSet
  | some .call => { h with call := true }
  | some .room => { h with room := true }
  | _ => h

/-- A hold set with the entry of the requester's role removed. DESIGN CHOICE (log 19): HOLD_OFF leaves a POD entry in place, as R27 says ("the requester's own role tag and no other"), and not as R124 says ("RELEASE_ALL and HOLD_OFF lift it as they lift any POD entry"). -/
def HoldSet.removeRole (h : HoldSet) : Option Role → HoldSet
  | some .call => { h with call := false }
  | some .room => { h with room := false }
  | _ => h

/-- A leg hold set with the entry of a role added (R17, R26). -/
def LegHolds.addRole (h : LegHolds) : Option Role → LegHolds
  | some .call => { h with call := true }
  | some .room => { h with room := true }
  | _ => h

/-- A leg hold set with the entry of a role removed. -/
def LegHolds.removeRole (h : LegHolds) : Option Role → LegHolds
  | some .call => { h with call := false }
  | some .room => { h with room := false }
  | _ => h

/-- Change the hold sets of a set of pods. -/
def State.changePodHolds (s : State) (applied : PodSet) (f : HoldSet → HoldSet) : State :=
  s.mapPods fun p pod => if PodSet.has applied p then { pod with holds := f pod.holds } else pod

/-- Change the send-hold sets (`send`) or the receive-hold sets of a set of legs. -/
def State.changeLegHolds (s : State) (applied : BitVec 4) (send : Bool) (f : LegHolds → LegHolds) : State :=
  s.mapLegs fun m leg =>
    if applied.getLsbD m.val then
      (if send then { leg with sendHolds := f leg.sendHolds } else { leg with receiveHolds := f leg.receiveHolds })
    else leg

/-- The applied set of a pod set operand of MA: named pods that are listed (R24). -/
def State.listedNamed (s : State) (word : Nat) : PodSet :=
  podSetWhere fun p => PodSet.has (podsNamed word) p && (s.pod p).listed

/-- The form and role checks of HOLD_ON and HOLD_OFF (R24). -/
def holdChecks (q : PortId) (operands : List Byte) (s : State) (k : Outcome) : Outcome :=
  ensure (isSetLength (operands.length - 1)) .length
  (ensure (holdTargetOfCode (number (operands.take 1))).isSome .range
  (ensure (s.roleIn q [.call, .room]) .notPermitted k))

/-- HOLD_ON or HOLD_OFF on pods: `f` adds or removes the requester's role (R25, R27). -/
def holdPods (q : PortId) (operands : List Byte) (s : State) (f : HoldSet → Option Role → HoldSet) : Outcome :=
  let word := number (operands.drop 1)
  let applied := s.listedNamed word
  answerApplied (podSetWord applied == word) (operands.take 1 ++ bigEndian 4 (podSetWord applied))
    (takeHoldChange s (s.changePodHolds applied fun h => f h (s.port q).role))

/-- HOLD_ON or HOLD_OFF on a leg direction, SEND or RECEIVE (R26, R27). -/
def holdLegs (q : PortId) (operands : List Byte) (s : State) (f : LegHolds → Option Role → LegHolds) : Outcome :=
  let word := number (operands.drop 1)
  let applied := legsNamed word
  answerApplied (applied.toNat == word) (operands.take 1 ++ bigEndian 4 applied.toNat)
    (takeHoldChange s (s.changeLegHolds applied (holdTargetOfCode (number (operands.take 1)) == some .send) fun h => f h (s.port q).role))

/-- HOLD_ON with target kind PODS (R24, R25). A kind that names no target is refused here (R24). -/
def requestHoldOnPods : Request := fun q f s =>
  holdChecks q f.operands s (holdPods q f.operands s HoldSet.addRole)

/-- HOLD_ON_PODS (R25). -/
def execHoldOnPods (q : PortId) (s : State) : Result := .next (takeTurn .holdOnPods requestHoldOnPods q s)

/-- HOLD_ON with target kind SEND or RECEIVE (R24, R26). -/
def requestHoldOnLegs : Request := fun q f s =>
  holdChecks q f.operands s (holdLegs q f.operands s LegHolds.addRole)

/-- HOLD_ON_LEGS (R26). -/
def execHoldOnLegs (q : PortId) (s : State) : Result := .next (takeTurn .holdOnLegs requestHoldOnLegs q s)

/-- HOLD_OFF, of any of the three target kinds (R24, R27). -/
def requestHoldOff : Request := fun q f s =>
  holdChecks q f.operands s
    (if holdTargetOfCode (number (f.operands.take 1)) = some .pods then holdPods q f.operands s HoldSet.removeRole
     else holdLegs q f.operands s LegHolds.removeRole)

/-- HOLD_OFF (R27). -/
def execHoldOff (q : PortId) (s : State) : Result := .next (takeTurn .holdOff requestHoldOff q s)

/-- A hold set that RELEASE_ALL has cleared: LINK alone is left in place (R28). -/
def HoldSet.releaseAll (h : HoldSet) : HoldSet := ⟨false, false, false, h.link⟩

/-- RELEASE_ALL (R24, R28). -/
def requestReleaseAll : Request := fun q f s =>
  ensure (isSetLength f.operands.length) .length
  (ensure (s.roleIn q [.room]) .notPermitted
  (let word := number f.operands
   let applied := s.listedNamed word
   answerApplied (podSetWord applied == word) (bigEndian 4 (podSetWord applied))
     (takeHoldChange s (s.changePodHolds applied HoldSet.releaseAll))))

/-- RELEASE_ALL (R28). -/
def execReleaseAll (q : PortId) (s : State) : Result := .next (takeTurn .releaseAll requestReleaseAll q s)

/-- The two bytes of the privacy record (Table 12-8, READ_ROOM bytes 0 and 1). -/
def privacyBytes : Option Setter → List Byte
  | none => [0, 0]
  | some (.chair p) => [byteOf (1 + 16 * Setter.code (.chair p)), byteOf (addressOf p)]
  | some x => [byteOf (1 + 16 * x.code), 0]

/-- The SETTER that a role's PRIVACY_ON records (R29). -/
def setterOf : Option Role → Setter
  | some .call => .call
  | _ => .room

/-- PRIVACY_ON (R24, R29). -/
def requestPrivacyOn : Request := fun q f s =>
  ensure f.operands.isEmpty .length
  (ensure (s.roleIn q [.call, .room]) .notPermitted
  (let x := some (setterOf (s.port q).role)
   answerDone (privacyBytes x) (takeHoldChange s { s with privacy := x })))

/-- PRIVACY_ON (R29). -/
def execPrivacyOn (q : PortId) (s : State) : Result := .next (takeTurn .privacyOn requestPrivacyOn q s)

/-- PRIVACY_OFF (R24, R30). -/
def requestPrivacyOff : Request := fun q f s =>
  ensure f.operands.isEmpty .length
  (ensure (s.roleIn q [.call, .room]) .notPermitted
  (answerDone (privacyBytes none) (takeHoldChange s { s with privacy := none })))

/-- PRIVACY_OFF (R30). -/
def execPrivacyOff (q : PortId) (s : State) : Result := .next (takeTurn .privacyOff requestPrivacyOff q s)

/-! ### Presses (R32 to R36) -/

/-- A pod's hold set after a short press that is judged while privacy is inactive (Table 2-3). -/
def HoldSet.afterShortPress (h : HoldSet) (podOverride : Nat) : HoldSet :=
  if !h.any then { h with pod := true }
  else if podOverride = 1 then ⟨false, false, false, h.link⟩
  else { h with pod := false }

/-- MA judges a short press of a pod (R33, Table 2-3). Under POD_OVERRIDE 0 a press at a pod without POD is ignored, which is the removal of an absent entry (R36). -/
def judgeShortPress (p : PodId) (s : State) : State :=
  if s.privacy.isSome then s
  else takeHoldChange s
    (s.modPod p fun pod => { pod with holds := pod.holds.afterShortPress s.tuning.podOverride })

/-- The privacy record after a long press of a pod (R35, Table 2-4). -/
def privacyAfterLongPress (p : PodId) (chair : Bool) : Option Setter → Option Setter
  | none => if chair then some (.chair p) else none
  | some (.chair x) => if chair then none else some (.chair x)
  | some x => some x

/-- MA judges a long press of a pod (R35, Table 2-4). -/
def judgeLongPress (p : PodId) (s : State) : State :=
  takeHoldChange s { s with privacy := privacyAfterLongPress p (s.pod p).chair s.privacy }

/-- PL delivers the next short press of a pod to MA, an event of its own (R32, R142). -/
def deliverShort (p : PodId) (s : State) : State :=
  (judgeShortPress p (s.modPod p fun pod => { pod with shortDue := pod.shortDue - 1 })).settle

/-- PL delivers the next long press of a pod to MA (R32, R142). -/
def deliverLong (p : PodId) (s : State) : State :=
  (judgeLongPress p (s.modPod p fun pod => { pod with longDue := pod.longDue - 1 })).settle

/-- SHORT_PRESS (R33): the next short press that PL holds for the pod is delivered and judged. With none to deliver, no press reaches MA (R32; log 3). -/
def execShortPress (address : Nat) (s : State) : Result :=
  match podOfAddress address with
  | none => .next s
  | some p => .next (if 0 < (s.pod p).shortDue then deliverShort p s else s)

/-- LONG_PRESS (R35): likewise, once the short presses of the reply have been delivered (R142). -/
def execLongPress (address : Nat) (s : State) : Result :=
  match podOfAddress address with
  | none => .next s
  | some p =>
    .next (if (s.pod p).shortDue = 0 ∧ 0 < (s.pod p).longDue then deliverLong p s else s)

end Sys2Proof.Machine
end

