-- ==== Sys2Proof/Machine/Legs.lean ====
section
/-! DEFINITION. The leg table (chapter 7): LEG_STATE (R119 to R121), the flush policies (R122 to R124) and the vacancy of the CALL role (R125, R126). -/

namespace Sys2Proof.Machine

/-- Whether a leg is OPEN or HELD. -/
def Leg.active (leg : Leg) : Bool := leg.state != .closed

/-- Whether any leg is OPEN or HELD (R123, R181). -/
def State.anyLegActive (s : State) : Bool := allLegs.any fun m => (s.leg m).active

/-- A leg as its close leaves it: CLOSED, its envelopes and receive factor 0 (R51), and its hold sets emptied under CLOSE_DROP_LEG_HOLDS (R122). -/
def Leg.close (leg : Leg) (dropHolds : Bool) : Leg :=
  { leg.zeroed with
    state := .closed
    sendHolds := if dropHolds then LegHolds.empty else leg.sendHolds
    receiveHolds := if dropHolds then LegHolds.empty else leg.receiveHolds }

/-- A pod's hold set at the last-close point (R123). -/
def HoldSet.afterLastClose (h : HoldSet) (t : Tuning) : HoldSet :=
  { h with
    call := h.call && !t.lastCloseDropCallHolds
    pod := h.pod && !t.lastCloseDropPodHolds }

/-- The effects of the last-close point (R123). -/
def State.lastClose (s : State) : State :=
  let s1 := s.mapPods fun _ pod => { pod with holds := pod.holds.afterLastClose s.tuning }
  if s.tuning.lastCloseEndPrivacy then { s1 with privacy := none } else s1

/-- Close the legs that a test picks out of those OPEN or HELD, with every flush effect the closes call for; the effects have not yet passed through R21 (R121, R125). -/
def State.closeLegs (s : State) (pick : LegId → Bool) : State :=
  let closing := fun m => pick m && (s.leg m).active
  let s1 := s.mapLegs fun m leg => if closing m then leg.close s.tuning.closeDropLegHolds else leg
  if allLegs.any closing && !s1.anyLegActive then s1.lastClose else s1

/-- The effect of a first open: POD is added to every listed pod's hold set under FIRST_OPEN_MUTE_PODS (R124). -/
def State.firstOpen (s : State) : State :=
  if s.tuning.firstOpenMutePods then
    s.mapPods fun _ pod => if pod.listed then { pod with holds := { pod.holds with pod := true } } else pod
  else s

/-- The leg table and the flush effects after an executed LEG_STATE (Table 7-3), before R21. -/
def State.setLegState (s : State) (m : LegId) (target : LegState) : State :=
  match target with
  | .closed => s.closeLegs fun k => k == m
  | .held => s.modLeg m fun leg => { leg with state := .held }
  | .opened =>
    let s1 := s.modLeg m fun leg => { leg with state := .opened }
    if s.anyLegActive then s1 else s1.firstOpen

/-- LEG_STATE's effect on a leg that is to change state: the changes pass through R21 once, and one LEGS notice is raised (R121). -/
def State.takeLegState (s : State) (m : LegId) (target : LegState) : State :=
  (takeHoldChange s (s.setLegState m target)).raise .legs

/-- The leg of an index 0 to 3. -/
def legOfIndex (n : Nat) : Option LegId := if h : n < 4 then some ⟨n, h⟩ else none

/-- The last two steps of LEG_STATE: the transition check (R119) and the outcome of Table 7-3. -/
def legTransition (m : LegId) (target : LegState) (s : State) : Outcome :=
  let payload := [byteOf m.val, byteOf target.code]
  if (s.leg m).state = target then answerDone payload s
  else if (s.leg m).state = .closed ∧ target = .held then refuse .state
  else answerDone payload (s.takeLegState m target)

/-- LEG_STATE: form, role, index, transition (R119), then Table 7-3 (R120). -/
def requestLegState : Request := fun q f s =>
  ensure (f.operands.length == 2) .length
  (match legStateOfCode (number (f.operands.drop 1)) with
   | none => refuse .range
   | some target =>
     ensure (s.roleIn q [.call]) .notPermitted
     (match legOfIndex (number (f.operands.take 1)) with
      | none => refuse .range
      | some m => legTransition m target s))

/-- LEG_STATE (R120). -/
def execLegState (q : PortId) (s : State) : Result := .next (takeTurn .legState requestLegState q s)

/-- Drop every hold of a role, on pods and on legs (R39). -/
def State.dropRoleHolds (s : State) (role : Option Role) : State :=
  (s.mapPods fun _ pod => { pod with holds := pod.holds.removeRole role }).mapLegs
    fun _ leg => { leg with
      sendHolds := leg.sendHolds.removeRole role
      receiveHolds := leg.receiveHolds.removeRole role }

/-- The vacancy of a role: for CALL, every leg that is OPEN or HELD is closed (R125); the vacancy of ROOM or VIEW closes none (R126). Before R21. -/
def State.vacateLegs (s : State) (role : Option Role) : State :=
  if role = some .call then s.closeLegs fun _ => true else s

/-- What a vacancy does once the port has given its role up: `after` holds every change, which pass through R21 once, and LEGS is raised if a leg was closed (R125). -/
def takeVacancy (before after : State) (role : Option Role) : State :=
  (takeHoldChange before after).raiseIf (role == some .call && before.anyLegActive) .legs

end Sys2Proof.Machine
end

