-- ==== Sys2Proof/Machine/PodLink.lean ====
section
/-! DEFINITION. The pod link controller (chapter 8): slots and polls (R131, R132), the characters of the line (R130), the judgement of a slot (R134, R135), the pod state machine (R137 to R140), presses (R141, R142) and the pod faults PL reports (R166). -/

namespace Sys2Proof.Machine

/-- Report POD_LOST of a pod (R166). -/
def State.reportLost (s : State) (p : PodId) (present : Bool) : State :=
  (s.modPod p fun pod => { pod with podLost := pod.podLost.report present }).raiseIf
    ((s.pod p).podLost.reportNotice present) .faults

/-- Report POD_LOCAL of a pod (R166). -/
def State.reportLocal (s : State) (p : PodId) (present : Bool) : State :=
  (s.modPod p fun pod => { pod with podLocal := pod.podLocal.report present }).raiseIf
    ((s.pod p).podLocal.reportNotice present) .faults

/-- Report POD_ERRORS of a pod (R166). -/
def State.reportErrors (s : State) (p : PodId) (present : Bool) : State :=
  (s.modPod p fun pod => { pod with podErrors := pod.podErrors.report present }).raiseIf
    ((s.pod p).podErrors.reportNotice present) .faults

/-! ### Slots and polls -/

/-- The listed pod whose slot is next: the lowest listed address above the last-polled address, else the lowest listed address (R131). -/
def State.nextPolled (s : State) : Option PodId :=
  match allPods.find? fun p => (s.pod p).listed && decide (s.lastPolled < addressOf p) with
  | some p => some p
  | none => allPods.find? fun p => (s.pod p).listed

/-- A character of the pod link (R130): its eight data bits, its marker bit and its stop bit, which is 1 unless it is a bad one. -/
structure LineChar where
  data : Byte
  marker : Bool
  stop : Bool
deriving DecidableEq, Repr

/-- The eleven bits of a character in the order they are sent: a start bit at 0, the data bits with the least significant first, the marker bit and the stop bit (R130). -/
def LineChar.bits (c : LineChar) : List Bool :=
  false :: (List.range 8).map (fun i => c.data.getLsbD i) ++ [c.marker, c.stop]

/-- The character whose start bit these ten bits follow (R130). -/
def charOfBits (bits : List Bool) : LineChar :=
  ⟨byteOfBits (bits.take 8), bits.getD 8 false, bits.getD 9 false⟩

/-- A character of the part's own (R130): its stop bit is 1. -/
def sentChar (marker : Bool) (data : Byte) : LineChar := ⟨data, marker, true⟩

/-- What PL puts out while it sends characters back to back, with the direction output asserted from the first start bit to the last stop bit; it then releases the line, which rests at 1, and deasserts the direction output (R130). -/
def drive (chars : List LineChar) : List LinkBit :=
  (chars.flatMap LineChar.bits).map (fun level => ⟨true, level⟩) ++ [⟨false, true⟩]

/-- The four characters of a poll (R132, Table 12-9). -/
def pollOf (p : PodId) (pattern : Pattern) : List LineChar :=
  let body := [byteOf (addressOf p), pattern.code]
  [sentChar true (byteOf (addressOf p)), sentChar false pattern.code] ++ (crc16Bytes body).map (sentChar false)

/-- A slot begins: the pod becomes the last polled, and its poll is sent with the indicator entry then standing (R59, R131, R132). -/
def State.beginSlot (s : State) (p : PodId) : State :=
  { s with lastPolled := addressOf p, slot := some ⟨p, drive (pollOf p (s.pod p).pattern), false, false⟩ }

/-! ### Reception -/

/-- Where PL's receiver stands between two bit times (R130). -/
inductive Receiver where
  /-- It looks for a start bit. -/
  | looking
  /-- It has sampled these bits since a start bit. -/
  | taking (bits : List Bool)
  /-- After a bad stop bit, it waits for the line to return to 1. -/
  | waiting
deriving DecidableEq, Repr

/-- The receiver after one more bit time, and the character that bit completes, which its stop bit does (R130, R134). -/
def Receiver.sample (r : Receiver) (level : Bool) : Receiver × Option LineChar :=
  match r with
  | .looking => (if level then .looking else .taking [], none)
  | .waiting => (if level then .looking else .waiting, none)
  | .taking bits =>
    if bits.length < 9 then (.taking (bits ++ [level]), none)
    else (if level then .looking else .waiting, some (charOfBits (bits ++ [level])))

/-- The complete characters that a receiver finds in the levels of the line, in the order received (R130). -/
def Receiver.receive : Receiver → List Bool → List LineChar
  | _, [] => []
  | r, level :: line => (r.sample level).2.toList ++ (r.sample level).1.receive line

/-- The complete characters on the line since the reply window opened (R134). -/
def charsOn (line : List Bool) : List LineChar := Receiver.looking.receive line

/-! ### Judgement -/

/-- The kinds of miss (R135). -/
inductive Miss where
  | timeout | framing | check
deriving DecidableEq, Repr

/-- One more on an error counter, which stays at 255 (R136). -/
def bump (n : Nat) : Nat := min 255 (n + 1)

/-- The counter a kind of miss adds to (R136). -/
def Pod.counter (pod : Pod) : Miss → Nat
  | .timeout => pod.timeouts
  | .framing => pod.framingErrors
  | .check => pod.checkFailures

/-- A pod with a miss counted (R136). -/
def Pod.countMiss (pod : Pod) : Miss → Pod
  | .timeout => { pod with timeouts := bump pod.timeouts }
  | .framing => { pod with framingErrors := bump pod.framingErrors }
  | .check => { pod with checkFailures := bump pod.checkFailures }

/-- Whether a miss in this state and with this count before it brings the pod to LOST (R137, R138). -/
def entersLost (link : PodState) (misses missLimit : Nat) : Bool :=
  (link == .seeking || link == .doubtful) && decide (missLimit ≤ misses + 1)

/-- PL's record of a pod after a miss (Table 8-2, R139). -/
def Pod.afterMiss (pod : Pod) (missLimit : Nat) : Pod :=
  if entersLost pod.link pod.misses missLimit then
    { pod with link := .lost, misses := pod.misses + 1, baselines := none, shortDue := 0, longDue := 0,
               holds := { pod.holds with link := true } }
  else match pod.link with
    | .seeking => { pod with misses := pod.misses + 1 }
    | .doubtful => { pod with misses := pod.misses + 1 }
    | .online => { pod with link := .doubtful, misses := 1 }
    | .lost => pod
    | .unlisted => pod

/-- The judgement of a miss, one event (R136 to R139, R144). -/
def judgeMiss (p : PodId) (kind : Miss) (s : State) : State :=
  let pod := s.pod p
  let lost := entersLost pod.link pod.misses s.tuning.missLimit
  let s1 := takeHoldChange s (s.modPod p fun pod => (pod.countMiss kind).afterMiss s.tuning.missLimit)
  let s2 := if pod.counter kind = 254 then s1.reportErrors p true else s1
  let s3 := if lost then s2.reportLost p true else s2
  s3.raiseIf (lost || pod.link == .online) .pods

/-- PL's record of a pod after a good reply with these counts (Table 8-2, R140, R141). -/
def Pod.afterReply (pod : Pod) (short long : Nat) (localFault : Bool) : Pod :=
  let pod1 := { pod with link := .online, misses := 0, baselines := some ⟨short, long⟩, localFault := localFault }
  match pod.link, pod.baselines with
  | .online, some b => { pod1 with shortDue := (short + 16 - b.short) % 16, longDue := (long + 16 - b.long) % 16 }
  | .doubtful, some b => { pod1 with shortDue := (short + 16 - b.short) % 16, longDue := (long + 16 - b.long) % 16 }
  | .online, none => { pod1 with shortDue := 0, longDue := 0 }
  | .doubtful, none => { pod1 with shortDue := 0, longDue := 0 }
  | _, _ => { pod1 with shortDue := 0, longDue := 0, holds := { pod.holds with link := false } }

/-- The judgement of a good reply, one event (R137, R140, R141, R143, R144). -/
def judgeReply (p : PodId) (short long : Nat) (localFault : Bool) (s : State) : State :=
  let link := (s.pod p).link
  let s1 := takeHoldChange s (s.modPod p fun pod => pod.afterReply short long localFault)
  let s2 := if link = .lost then s1.reportLost p false else s1
  (s2.reportLocal p localFault).raiseIf (link != .online) .pods

/-- Judge five complete characters for the polled pod (R135, tests 2 to 4). -/
def judgeChars (p : PodId) (echo counts flags checkHigh checkLow : LineChar) (s : State) : State :=
  let chars := [echo, counts, flags, checkHigh, checkLow]
  if chars.any (fun c => c.marker || !c.stop) then judgeMiss p .framing s
  else if crc16Bytes [echo.data, counts.data, flags.data] ≠ [checkHigh.data, checkLow.data] then judgeMiss p .check s
  else if echo.data ≠ byteOf (addressOf p) then judgeMiss p .check s
  else judgeReply p (counts.data.toNat % 16) (counts.data.toNat / 16) (flags.data.getLsbD 0) s

/-- The end of reception in the slot in progress: the slot is judged once, and a reply of a pod that was unlisted during its slot is discarded (R134, R145). -/
def endReception (judge : PodId → State → State) (s : State) : State :=
  match s.slot with
  | none => s
  | some slot =>
    if slot.judged then s
    else
      let s1 := { s with slot := some { slot with judged := true } }
      (if slot.discard then s1 else judge slot.pod s1).settle

/-- REPLY_COMPLETE (R134): the fifth character is complete within the window; what comes after it is discarded. A line on which fewer than five characters are complete ends no reception (log 3). -/
def execReplyComplete (echo counts flags checkHigh checkLow : List Bool) (s : State) : Result :=
  match charsOn (echo ++ counts ++ flags ++ checkHigh ++ checkLow) with
  | echo :: counts :: flags :: checkHigh :: checkLow :: _ =>
    .next (endReception (fun p => judgeChars p echo counts flags checkHigh checkLow) s)
  | _ => .next s

/-- REPLY_WINDOW_CLOSES (R134): fewer than five characters are complete, a timeout (R135). -/
def execReplyWindowCloses (s : State) : Result := .next (endReception (fun p => judgeMiss p .timeout) s)

/-! ### Slot start -/

/-- Deliver what is left of a pod's presses: PL delivers every press of a reply before the pod's next slot begins (R142). -/
def deliverAll (p : PodId) (s : State) : State :=
  let s1 := repeatState (s.pod p).shortDue (deliverShort p) s
  repeatState (s1.pod p).longDue (deliverLong p) s1

/-- The start of a slot (R131). The slot before it has ended: one not yet judged is judged a timeout, its window having closed (R134). With no pod listed no slot begins. -/
def startSlot (s : State) : State :=
  let s1 := endReception (fun p => judgeMiss p .timeout) s
  match s1.nextPolled with
  | none => { s1 with slot := none, lastPolled := 0 }
  | some p => (deliverAll p s1).beginSlot p

/-- SLOT_START (R131). -/
def execSlotStart (s : State) : Result := finish (startSlot s)

end Sys2Proof.Machine
end

