-- ==== Sys2Proof/Machine/Tables.lean ====
section
/-! DEFINITION. The room tables (chapter 1): listing and unlisting (R6, R7), GAIN, TUNE, ROSTER and EXCLUDE (R4, R5, R9 to R13), and the changes that act on the talker list at once (R10, R15). -/

namespace Sys2Proof.Machine

/-! ### Listing and unlisting -/

/-- Whether any pod is listed. -/
def State.anyListed (s : State) : Bool := allPods.any fun p => (s.pod p).listed

/-- A pod as its listing leaves it, at every block (R6). -/
def Pod.list (pod : Pod) : Pod :=
  { pod with
    listed := true
    chair := false
    holds := HoldSet.linkOnly
    mutedTalk := false
    level := 0
    floor := 0
    link := .seeking
    misses := 0
    baselines := none
    shortDue := 0
    longDue := 0
    localFault := false }

/-- A pod as its unlisting leaves it, at every block (R7): class, exclusion set, gains, error counters and latches are kept. -/
def Pod.unlist (pod : Pod) : Pod :=
  { pod with
    listed := false
    chair := false
    holds := HoldSet.empty
    mutedTalk := false
    level := 0
    floor := 0
    muteEnv := Ramp.flat 0
    gateEnv := Ramp.flat 0
    contrib := Ramp.flat 0
    contribEnd := 0
    link := .unlisted
    misses := 0
    baselines := none
    shortDue := 0
    longDue := 0
    localFault := false
    podLost := pod.podLost.report false
    podClip := pod.podClip.report false
    podLocal := pod.podLocal.report false }

/-- A pod listed while polling is stopped begins a slot for the lowest listed pod in the listing event (R131). Polling is stopped when no slot runs and no pod was listed; the poll carries the entry the listing leaves. -/
def beginFirstSlot (before after : State) : State :=
  if before.slot.isNone && !before.anyListed then
    match allPods.find? fun p => (after.pod p).listed with
    | none => after
    | some p => after.settle.beginSlot p
  else after

/-- List each named pod that is not listed (R6): a PODS and a HOLDS notice if at least one became listed. -/
def State.listPods (s : State) (named : PodSet) : State :=
  let newly := fun p => PodSet.has named p && !(s.pod p).listed
  let anyNew := allPods.any newly
  let s1 := s.mapPods fun p pod => if newly p then pod.list else pod
  beginFirstSlot s ((s1.raiseIf anyNew .pods).raiseIf anyNew .holds)

/-- The link after pods are unlisted: the reply of the polled pod, if awaited, will be discarded (R7), and with no pod left the last-polled address becomes 0 (R131; log 10). -/
def State.unlistLink (s : State) (gone : PodId → Bool) : State :=
  { s with
    slot := s.slot.map fun slot => if gone slot.pod && !slot.judged then { slot with discard := true } else slot
    lastPolled := if s.anyListed then s.lastPolled else 0 }

/-- Unlist each named pod that is listed (R7), with its notices: PODS if a pod became unlisted, HOLDS if an emptied hold set was non-empty, TALKERS if the talker list or a flag changed, FAULTS if a latched condition ended (R165, R166). -/
def State.unlistPods (s : State) (named : PodSet) : State :=
  let newly := fun p => PodSet.has named p && (s.pod p).listed
  let pods := allPods.any newly
  let holds := allPods.any fun p => newly p && (s.pod p).holds.any
  let talkers := (s.talkers.any fun e => newly e.pod) || allPods.any fun p => newly p && (s.pod p).mutedTalk
  let faults := allPods.any fun p => newly p &&
    ((s.pod p).podLost.reportNotice false || (s.pod p).podClip.reportNotice false || (s.pod p).podLocal.reportNotice false)
  let s1 := { s with talkers := s.talkers.filter fun e => !newly e.pod }
  let s2 := s1.mapPods fun p pod => if newly p then pod.unlist else pod
  let s3 := if pods then s2.unlistLink newly else s2
  (((s3.raiseIf pods .pods).raiseIf holds .holds).raiseIf talkers .talkers).raiseIf faults .faults

/-! ### Changes that act on the talker list at once -/

/-- The talker list replaced by a cut or a removal, with TALKERS raised if an entry left (R15). -/
def State.cutTalkers (s : State) (l : List Talker) : State :=
  { s with talkers := l }.raiseIf (decide (l.length < s.talkers.length)) .talkers

/-- What a parameter that takes a new value does at once: a lowered OPEN_LIMIT cuts the list, a cleared LAST_ON removes a LAST entry (R15). -/
def State.afterTuning (s : State) (p : Param) : State :=
  match p with
  | .openLimit => s.cutTalkers (limitCut s.tuning.openLimit s.talkers.length s.talkers)
  | .lastOn => if s.tuning.lastOn = 0 then s.cutTalkers (s.talkers.filter fun e => !e.isLast) else s
  | _ => s

/-- A parameter takes a value in range; a value equal to the one held changes nothing (R13). -/
def State.tune (s : State) (p : Param) (v : Nat) : State :=
  if s.tuning.get p = v then s else { s with tuning := s.tuning.set p v }.afterTuning p

/-- A pod takes a class, and so does its talker entry, if it has one, at once (R10). -/
def State.setClass (s : State) (p : PodId) (c : Nat) : State :=
  { s.modPod p fun pod => { pod with cls := c } with
    talkers := s.talkers.map fun e => if e.pod = p then { e with cls := c } else e }

/-! ### GAIN -/

/-- The form check of GAIN (R4): five operand bytes, and a kind that names one. -/
def gainChecks (q : PortId) (operands : List Byte) (s : State) (roles : List Role) (k : Outcome) : Outcome :=
  ensure (operands.length == 5) .length
  (ensure (gainKindOfCode (number (operands.take 1))).isSome .range
  (ensure (s.roleIn q roles) .notPermitted k))

/-- The payload of GAIN: kind, index and applied value (Table 12-4). -/
def gainPayload (operands : List Byte) (applied : Nat) : List Byte := operands.take 2 ++ bigEndian 3 applied

/-- GAIN on a pod: the clamped value goes to the addressed pod (R5, R12). -/
def gainPod (operands : List Byte) (s : State) (bound : Nat) (set : Nat → Pod → Pod) : Outcome :=
  match podOfAddress (number ((operands.drop 1).take 1)) with
  | none => refuse .range
  | some p =>
    let v := number (operands.drop 2)
    let applied := min bound v
    answerApplied (applied == v) (gainPayload operands applied) (s.modPod p (set applied))

/-- A pod takes a trim (R12). The present contribution gain stays at most the trim in this event (law 13, R1); the first frame computed after it still slides from the gain on which the last one ended (R12, R97; log 12). -/
def Pod.setTrim (pod : Pod) (v : Nat) : Pod :=
  { pod with trim := v, contrib := { pod.contrib with now := min pod.contrib.now v } }

/-- GAIN with kind TRIM (R4, R12). -/
def requestGainTrim : Request := fun q f s =>
  gainChecks q f.operands s [.room] (gainPod f.operands s maxTrim fun v pod => pod.setTrim v)

/-- GAIN_TRIM (R12). -/
def execGainTrim (q : PortId) (s : State) : Result := .next (takeTurn .gainTrim requestGainTrim q s)

/-- GAIN with kind VOLUME (R4, R12). -/
def requestGainVolume : Request := fun q f s =>
  gainChecks q f.operands s [.room] (gainPod f.operands s unity fun v pod => { pod with volume := v })

/-- GAIN_VOLUME (R12). -/
def execGainVolume (q : PortId) (s : State) : Result := .next (takeTurn .gainVolume requestGainVolume q s)

/-- GAIN with kind LEG_GAIN (R4, R12). -/
def requestGainLegGain : Request := fun q f s =>
  gainChecks q f.operands s [.call, .room]
    (let index := number ((f.operands.drop 1).take 1)
     if h : index < 4 then
       let v := number (f.operands.drop 2)
       let applied := min maxTrim v
       answerApplied (applied == v) (gainPayload f.operands applied)
         (s.modLeg ⟨index, h⟩ fun leg => { leg with gain := applied })
     else refuse .range)

/-- GAIN_LEG_GAIN (R12). -/
def execGainLegGain (q : PortId) (s : State) : Result := .next (takeTurn .gainLegGain requestGainLegGain q s)

/-! ### TUNE -/

/-- The set form of TUNE (R4, R5, R13). A request whose operand count fits neither form is refused here (R4). -/
def requestTuneSet : Request := fun q f s =>
  ensure (f.operands.length == 4) .length
  (ensure (s.roleIn q [.room]) .notPermitted
  (match paramOfId (number (f.operands.take 1)) with
   | none => refuse .range
   | some p =>
     let v := number (f.operands.drop 1)
     answerApplied (p.clamp v == v) (f.operands.take 1 ++ bigEndian 3 (p.clamp v)) (s.tune p (p.clamp v))))

/-- TUNE_SET (R13). -/
def execTuneSet (q : PortId) (s : State) : Result := .next (takeTurn .tuneSet requestTuneSet q s)

/-- The query form of TUNE (R4, R13). -/
def requestTuneQuery : Request := fun q f s =>
  ensure (f.operands.length == 1) .length
  (ensure (s.roleIn q [.call, .room, .view]) .notPermitted
  (match paramOfId (number f.operands) with
   | none => refuse .range
   | some p => answerDone (f.operands ++ bigEndian 3 (s.tuning.get p)) s))

/-- TUNE_QUERY (R13). -/
def execTuneQuery (q : PortId) (s : State) : Result := .next (takeTurn .tuneQuery requestTuneQuery q s)

/-! ### ROSTER -/

/-- The operand counts that ROSTER's forms take: LIST and UNLIST 2 to 5, CHAIR 3 to 6, CLASS 3 (R4, R182). A sub-operation that names none of the four is judged against them all. -/
def rosterLengthFits (operands : List Byte) : Bool :=
  let n := operands.length
  match operands with
  | [] => false
  | op :: _ =>
    match rosterOpOfCode op.toNat with
    | some .list => isSetLength (n - 1)
    | some .unlist => isSetLength (n - 1)
    | some .chair => isSetLength (n - 2)
    | some .cls => n == 3
    | none => isSetLength (n - 1) || isSetLength (n - 2)

/-- The form and role checks of ROSTER (R4): a sub-operation above 3 names none, and a CHAIR choice above 1 counts as an unknown sub-operation (Table 12-2). -/
def rosterChecks (q : PortId) (operands : List Byte) (s : State) (k : Outcome) : Outcome :=
  ensure (rosterLengthFits operands) .length
  (ensure (match rosterOpOfCode (number (operands.take 1)) with
    | some .chair => (chairChoiceOfCode (number ((operands.drop 1).take 1))).isSome
    | some _ => true
    | none => false) .range
  (ensure (s.roleIn q [.room]) .notPermitted k))

/-- ROSTER LIST (R4 to R6). -/
def requestRosterList : Request := fun q f s =>
  rosterChecks q f.operands s
    (let word := number (f.operands.drop 1)
     let applied := podsNamed word
     answerApplied (podSetWord applied == word) (f.operands.take 1 ++ bigEndian 4 (podSetWord applied)) (s.listPods applied))

/-- ROSTER_LIST (R6). -/
def execRosterList (q : PortId) (s : State) : Result := .next (takeTurn .rosterList requestRosterList q s)

/-- ROSTER UNLIST (R4, R5, R7). -/
def requestRosterUnlist : Request := fun q f s =>
  rosterChecks q f.operands s
    (let word := number (f.operands.drop 1)
     let applied := podsNamed word
     answerApplied (podSetWord applied == word) (f.operands.take 1 ++ bigEndian 4 (podSetWord applied)) (s.unlistPods applied))

/-- ROSTER_UNLIST (R7). -/
def execRosterUnlist (q : PortId) (s : State) : Result := .next (takeTurn .rosterUnlist requestRosterUnlist q s)

/-- Named pods join the chair set or leave it; PODS is raised if the set changed (R9). -/
def State.setChairs (s : State) (applied : PodSet) (on : Bool) : State :=
  let changed := allPods.any fun p => PodSet.has applied p && (s.pod p).chair != on
  (s.mapPods fun p pod => if PodSet.has applied p then { pod with chair := on } else pod).raiseIf changed .pods

/-- ROSTER CHAIR (R4, R5, R9): the applied set holds the named pods that are listed. -/
def requestRosterChair : Request := fun q f s =>
  rosterChecks q f.operands s
    (let word := number (f.operands.drop 2)
     let applied := s.listedNamed word
     answerApplied (podSetWord applied == word) (f.operands.take 2 ++ bigEndian 4 (podSetWord applied))
       (s.setChairs applied (chairChoiceOfCode (number ((f.operands.drop 1).take 1)) == some true)))

/-- ROSTER_CHAIR (R9). -/
def execRosterChair (q : PortId) (s : State) : Result := .next (takeTurn .rosterChair requestRosterChair q s)

/-- ROSTER CLASS (R4, R5, R10): PODS is raised if the class changed. -/
def requestRosterClass : Request := fun q f s =>
  rosterChecks q f.operands s
    (match podOfAddress (number ((f.operands.drop 1).take 1)) with
     | none => refuse .range
     | some p =>
       let v := number (f.operands.drop 2)
       let applied := min maxClass v
       answerApplied (applied == v) (f.operands.take 2 ++ [byteOf applied])
         ((s.setClass p applied).raiseIf ((s.pod p).cls != applied) .pods))

/-- ROSTER_CLASS (R10). -/
def execRosterClass (q : PortId) (s : State) : Result := .next (takeTurn .rosterClass requestRosterClass q s)

/-! ### EXCLUDE -/

/-- An exclusion set that contains its own pod (R2, R5). -/
def withSelf (x : PodSet) (p : PodId) : PodSet := x ||| (1#24 <<< p.val)

/-- EXCLUDE (R4, R5, R11). -/
def requestExclude : Request := fun q f s =>
  ensure (isSetLength (f.operands.length - 1)) .length
  (ensure (s.roleIn q [.room]) .notPermitted
  (match podOfAddress (number (f.operands.take 1)) with
   | none => refuse .range
   | some p =>
     let word := number (f.operands.drop 1)
     let applied := withSelf (podsNamed word) p
     answerApplied (podSetWord applied == word) (f.operands.take 1 ++ bigEndian 4 (podSetWord applied))
       (s.modPod p fun pod => { pod with excl := applied })))

/-- EXCLUDE (R11). -/
def execExclude (q : PortId) (s : State) : Result := .next (takeTurn .exclude requestExclude q s)

end Sys2Proof.Machine
end

