-- ==== Sys2Proof/Machine/Store.lean ====
section
/-! DEFINITION. The profile store (chapter 11): sections (Table 11-1), reads (R174), operations and their ends (R173, R175 to R178), and the profile load (R180, R181). -/

namespace Sys2Proof.Machine

/-! ### Sections, blocks and pages -/

/-- The bytes of a block (11.1). -/
def blockSize : Nat := 64

/-- The bytes of a page (11.1). -/
def pageSize : Nat := 16

/-- The highest section number. -/
def maxSection : Nat := 7

/-- The first block of a section (Table 11-1). -/
def firstBlock (sect : Nat) : Nat :=
  match sect with
  | 0 => 0
  | 1 => 1
  | 2 => 2
  | 3 => 4
  | 4 => 7
  | 5 => 8
  | 6 => 9
  | _ => 10

/-- The last block of a section (Table 11-1). -/
def lastBlock (sect : Nat) : Nat :=
  match sect with
  | 0 => 0
  | 1 => 1
  | 2 => 3
  | 3 => 6
  | 4 => 7
  | 5 => 8
  | 6 => 9
  | _ => 15

/-- The section that holds an address (Table 11-1). -/
def sectionOf (address : Nat) : Nat :=
  let b := address / blockSize
  if b ≤ 1 then b
  else if b ≤ 3 then 2
  else if b ≤ 6 then 3
  else if b ≤ 9 then b - 3
  else 7

/-- Whether a section is COMMITTED (R172). -/
def State.committed (s : State) (sect : Nat) : Bool := s.commitMap.getLsbD sect

/-- The commit map with a section's entry COMMITTED. -/
def commitSection (m : BitVec 8) (sect : Nat) : BitVec 8 := m ||| (1#8 <<< sect)

/-- The commit map with a section's entry BLANK. -/
def blankSection (m : BitVec 8) (sect : Nat) : BitVec 8 := m &&& ~~~(1#8 <<< sect)

/-! ### Reading and status -/

/-- STORE_READ (R174). -/
def requestStoreRead : Request := fun q f s =>
  ensure (f.operands.length == 3) .length
  (ensure (s.roleIn q [.call, .room, .view]) .notPermitted
  (let address := number (f.operands.take 2)
   let count := number (f.operands.drop 2)
   ensure (decide (address < storeSize) && decide (1 ≤ count) && decide (count ≤ 16)) .range
   (let n := min count (storeSize - address)
    answerApplied (n == count) (f.operands.take 2 ++ [byteOf n] ++ Memory.readMany s.store address n) s)))

/-- STORE_READ (R174). -/
def execStoreRead (q : PortId) (s : State) : Result := .next (takeTurn .storeRead requestStoreRead q s)

/-- The section of the operation in progress; 0xFF while IDLE (R174, Table 12-4). -/
def StoreOp.sectionByte : StoreOp → Byte
  | .idle => 0xFF
  | .writing address _ => byteOf (sectionOf address)
  | .committing sect => byteOf sect
  | .erasing sect _ => byteOf sect

/-- STORE_STATUS (R174). -/
def requestStoreStatus : Request := fun q f s =>
  ensure f.operands.isEmpty .length
  (ensure (s.roleIn q [.call, .room, .view]) .notPermitted
  (answerDone [s.storeOp.code, s.storeOp.sectionByte, s.lastResult.code, byteOf s.installer.toNat, s.commitMap] s))

/-- STORE_STATUS (R174). -/
def execStoreStatus (q : PortId) (s : State) : Result := .next (takeTurn .storeStatus requestStoreStatus q s)

/-! ### Operations begin -/

/-- A request that begins an operation is answered STARTED, and the operation state changes in that event (R173). -/
def beginOp (op : StoreOp) (payload : List Byte) (s : State) : Outcome :=
  .ok (⟨.started, payload⟩, { s with storeOp := op })

/-- STORE_WRITE: the checks of Table 11-2 in order, then a write of the bytes that fall within the address's page (R175). -/
def requestStoreWrite : Request := fun q f s =>
  ensure (decide (3 ≤ f.operands.length) && decide (f.operands.length ≤ 18)) .length
  (ensure (s.roleIn q [.room]) .notPermitted
  (let address := number (f.operands.take 2)
   let data := f.operands.drop 2
   ensure (decide (address < storeSize)) .range
   (ensure (s.storeOp == .idle) .storeBusy
   (ensure (!s.committed (sectionOf address)) .protected_
   (let accepted := data.take (pageSize - address % pageSize)
    beginOp (.writing address accepted) (f.operands.take 2 ++ [byteOf accepted.length]) s)))))

/-- STORE_WRITE (R175). -/
def execStoreWrite (q : PortId) (s : State) : Result := .next (takeTurn .storeWrite requestStoreWrite q s)

/-- STORE_COMMIT (R176). -/
def requestStoreCommit : Request := fun q f s =>
  ensure (f.operands.length == 1) .length
  (ensure (s.roleIn q [.room]) .notPermitted
  (let sect := number f.operands
   ensure (decide (sect ≤ maxSection)) .range
   (ensure (s.storeOp == .idle) .storeBusy
   (if s.committed sect then answerDone f.operands s else beginOp (.committing sect) f.operands s))))

/-- STORE_COMMIT (R176). -/
def execStoreCommit (q : PortId) (s : State) : Result := .next (takeTurn .storeCommit requestStoreCommit q s)

/-- STORE_ERASE (R177). -/
def requestStoreErase : Request := fun q f s =>
  ensure (f.operands.length == 1) .length
  (ensure (s.roleIn q [.room]) .notPermitted
  (let sect := number f.operands
   ensure (decide (sect ≤ maxSection)) .range
   (ensure s.installer .notInstaller
   (ensure (s.storeOp == .idle) .storeBusy
   (beginOp (.erasing sect (firstBlock sect)) f.operands s)))))

/-- STORE_ERASE (R177). -/
def execStoreErase (q : PortId) (s : State) : Result := .next (takeTurn .storeErase requestStoreErase q s)

/-! ### Operations end -/

/-- An operation ends with a result: IDLE, and a STORE notice (R173, R178). -/
def State.endOp (s : State) (r : StoreResult) : State := { s with storeOp := .idle, lastResult := r }.raise .store

/-- STORE_COMPLETION: the completion event of the write or commit in progress (R173, R175, R176). The completion that follows a timeout is discarded: it changes no byte and no map entry and raises no notice, whatever operation runs by then (R178; log 14). -/
def execStoreCompletion (s : State) : Result :=
  if 0 < s.lateStores then .next { s with lateStores := s.lateStores - 1 }
  else match s.storeOp with
    | .writing address data => finish ({ s with store := Memory.writeMany s.store address data }.endOp .ok)
    | .committing sect => finish ({ s with commitMap := commitSection s.commitMap sect }.endOp .ok)
    | .idle => .next s
    | .erasing _ _ => .next s

/-- The store with every byte of a block erased (R177). -/
def eraseBlock (m : Memory) (block : Nat) : Memory :=
  Memory.writeMany m (blockSize * block) (List.replicate blockSize erasedByte)

/-- ERASE_BLOCK_COMPLETION: the block's bytes become 0xFF; the next block begins, or the section becomes BLANK and the operation ends (R177). The completion that follows a timeout is discarded (R178; log 14). -/
def execEraseBlockCompletion (s : State) : Result :=
  if 0 < s.lateBlocks then .next { s with lateBlocks := s.lateBlocks - 1 }
  else match s.storeOp with
    | .erasing sect block =>
      let s1 := { s with store := eraseBlock s.store block }
      if block < lastBlock sect then .next { s1 with storeOp := .erasing sect (block + 1) }
      else finish ({ s1 with commitMap := blankSection s1.commitMap sect }.endOp .ok)
    | .idle => .next s
    | .writing _ _ => .next s
    | .committing _ => .next s

/-- The store after consecutive bytes each took their new value or kept their old one; which, is a free value (R178, R179; log 5). -/
def tornWrite (n : Nat) (m : Memory) (a : Nat) : List Byte → Memory
  | [] => m
  | b :: bs => tornWrite n (if Config.byteTook n a then m.write a b else m) (a + 1) bs

/-- The store bytes that an operation cut short leaves (R178, R179). -/
def State.tornStore (s : State) : Memory :=
  match s.storeOp with
  | .idle => s.store
  | .committing _ => s.store
  | .writing address data => tornWrite s.freeCount s.store address data
  | .erasing _ block => tornWrite s.freeCount s.store (blockSize * block) (List.replicate blockSize erasedByte)

/-- Whether the operation in progress is an erase, whose blocks report their ends by a row of their own (R177). -/
def StoreOp.erases : StoreOp → Bool
  | .erasing _ _ => true
  | .idle => false
  | .writing _ _ => false
  | .committing _ => false

/-- OPERATION_TIMEOUT: the operation ends FAILED, STORE_TIMEOUT is latched (R165, R167) and STORE is raised; the commit map is unchanged, and the completion that follows is to be discarded (R178; log 14). With no operation in progress no timer runs (R173; log 3). -/
def execOperationTimeout (s : State) : Result :=
  if s.storeOp = .idle then .next s
  else
    let s1 := { s with store := s.tornStore, storeTimeout := true, freeCount := s.freeCount + 1
                       lateStores := s.lateStores + (!s.storeOp.erases).toNat
                       lateBlocks := s.lateBlocks + s.storeOp.erases.toNat }
    finish ((s1.endOp .failed).raiseIf (!s.storeTimeout) .faults)

/-! ### The profile load -/

/-- A stored number of `n` bytes, most significant byte first (R180). -/
def stored (m : Memory) (a n : Nat) : Nat := number (Memory.readMany m a n)

/-- The roster a load gives (R180, Table 12-10): the stored set, or by default all 24 pods. -/
def State.loadedRoster (s : State) : PodSet :=
  if s.committed 1 then podsNamed (stored s.store 64 4) else BitVec.allOnes 24

/-- The chair set a load gives: it loses pods that the loaded roster does not list (R180). -/
def State.loadedChairs (s : State) : PodSet :=
  if s.committed 1 then podsNamed (stored s.store 68 4) &&& s.loadedRoster else 0

/-- The class a load gives a pod. -/
def State.loadedClass (s : State) (p : PodId) : Nat :=
  if s.committed 1 then min maxClass (stored s.store (71 + addressOf p) 1) else 1

/-- The exclusion set a load gives a pod. -/
def State.loadedExclusion (s : State) (p : PodId) : PodSet :=
  withSelf (if s.committed 2 then podsNamed (stored s.store (128 + 4 * p.val) 4) else 0) p

/-- The trim a load gives a pod. -/
def State.loadedTrim (s : State) (p : PodId) : Nat :=
  if s.committed 3 then min maxTrim (stored s.store (256 + 3 * p.val) 3) else unity

/-- The pod volume a load gives a pod. -/
def State.loadedVolume (s : State) (p : PodId) : Nat :=
  if s.committed 3 then min unity (stored s.store (328 + 3 * p.val) 3) else unity

/-- The leg gain a load gives a leg. -/
def State.loadedLegGain (s : State) (m : LegId) : Nat :=
  if s.committed 3 then min maxTrim (stored s.store (400 + 3 * m.val) 3) else unity

/-- Where a parameter is stored: its section, its address and its number of bytes (Table 12-10). -/
def Param.place : Param → Nat × Nat × Nat
  | .openLimit => (4, 448, 3)
  | .marginShift => (4, 451, 3)
  | .absThreshold => (4, 454, 3)
  | .gateHold => (4, 457, 3)
  | .attack => (4, 460, 3)
  | .release => (4, 463, 3)
  | .offGain => (4, 466, 3)
  | .lastOn => (4, 469, 3)
  | .muteRamp => (4, 472, 3)
  | .reinforce => (4, 475, 3)
  | .presence => (5, 512, 1)
  | .missLimit => (5, 513, 1)
  | .podOverride => (5, 514, 1)
  | .startPrivate => (5, 515, 1)
  | .flush => (6, 576, 1)

/-- The value a load gives a parameter: the stored value, clamped, or the default (R3, R5, R180). -/
def State.loadedParam (s : State) (p : Param) : Nat :=
  if s.committed p.place.1 then p.clamp (stored s.store p.place.2.1 p.place.2.2) else Tuning.defaults.get p

/-- The parameters in the order a load applies them: S4, S5, S6, each by rising address (R180). -/
def loadOrder : List Param :=
  [.openLimit, .marginShift, .absThreshold, .gateHold, .attack, .release, .offGain, .lastOn, .muteRamp, .reinforce,
   .presence, .missLimit, .podOverride, .startPrivate, .flush]

/-- The parts of a load that S1 gives: pods are listed and unlisted as R6 and R7 give, then chair set and classes; PODS is raised if any of them changed (R180). Pods are listed before others are unlisted, so that polling does not stop in between (log 10). -/
def State.loadRoster (s : State) : State :=
  let roster := s.loadedRoster
  let chairs := s.loadedChairs
  let cls := s.loadedClass
  let s1 := (s.listPods roster).unlistPods (~~~roster)
  let s2 := s1.mapPods fun p pod => { pod with chair := PodSet.has chairs p, cls := cls p }
  let s3 := { s2 with talkers := s2.talkers.map fun e : Talker => { e with cls := cls e.pod } }
  s3.raiseIf (allPods.any fun p => (s.pod p).chair != PodSet.has chairs p || (s.pod p).cls != cls p) .pods

/-- The parts of a load that S2 and S3 give: exclusion sets and gains, without notices (R180). -/
def State.loadGains (s : State) : State :=
  (s.mapPods fun p pod => { pod.setTrim (s.loadedTrim p) with
    excl := s.loadedExclusion p
    volume := s.loadedVolume p }).mapLegs fun m leg => { leg with gain := s.loadedLegGain m }

/-- The parts of a load that S4 to S6 give: each parameter as `tune` gives it, with what it does at once (R15, R180). -/
def State.loadTuning (s : State) : State :=
  loadOrder.foldl (fun s p => s.tune p (s.loadedParam p)) s

/-- A profile load, one event: S1, then S2 and S3, then S4 to S6 (R180). -/
def State.load (s : State) : State := s.loadRoster.loadGains.loadTuning

/-- PROFILE_LOAD: the checks in order, then the load; the payload is the commit map the load read (R181). -/
def requestProfileLoad : Request := fun q f s =>
  ensure f.operands.isEmpty .length
  (ensure (s.roleIn q [.room]) .notPermitted
  (ensure (!s.anyLegActive) .legsActive
  (ensure (s.storeOp == .idle) .storeBusy
  (answerDone [s.commitMap] s.load))))

/-- PROFILE_LOAD (R181). -/
def execProfileLoad (q : PortId) (s : State) : Result := .next (takeTurn .profileLoad requestProfileLoad q s)

end Sys2Proof.Machine
end

