-- ==== Sys2Proof/Machine/Reset.lean ====
section
/-! DEFINITION. Power-up and RESET_N (00 "Resets"; R172, R179, R180): every block takes its reset value, and the reset's profile load fills the room tables. -/

namespace Sys2Proof.Machine

/-- The blocks at their reset values before the load: no pod is listed yet. What is nonvolatile is given by `s` (R172), as an operation that the reset ends leaves it (R179), and the commands that wait are not of the part. -/
def State.blocksReset (s : State) (installer : Bool) : State :=
  { State.reset with
    pending := s.pending
    pods := Vector.ofFn Pod.base
    store := s.tornStore
    commitMap := match s.storeOp with
      | .committing sect => if Config.commitTook s.freeCount then commitSection s.commitMap sect else s.commitMap
      | _ => s.commitMap
    installer := installer
    freeCount := if s.storeOp = .idle then s.freeCount else s.freeCount + 1 }

/-- The reset's profile load (R180): as any load, then MA sets privacy from START_PRIVATE (R19), and U and V stand at the loaded values (Table 5-1). The first slot is still to begin, and the last-polled address is 0 (R129; log 10). -/
def State.resetLoad (s : State) : State :=
  let s1 := s.load
  let s2 := s1.mapPods fun _ pod => { pod with volumeGain := Ramp.flat pod.volume }
  { s2 with
    privacy := if s1.tuning.startPrivate = 1 then some .start else none
    reinforceGain := Ramp.flat s1.tuning.reinforce
    slot := none
    lastPolled := 0 }

/-- POWER_UP (R172): INSTALL is sampled into the installer-mode flag. -/
def execPowerUp (install : Bool) (s : State) : Result := finish (s.blocksReset install).resetLoad

/-- RESET_N (R179): the installer-mode flag stands (R172). -/
def execResetN (s : State) : Result := finish (s.blocksReset s.installer).resetLoad

end Sys2Proof.Machine
end

