-- ==== Sys2Proof/Machine/Ports.lean ====
section
/-! DEFINITION. The controller ports' own requests (chapter 9): JOIN, LEAVE, PULSE, NOTICES, WATCH and IDENT (R154 to R156, R159, R162), and the expiry of the presence timer (R157). -/

namespace Sys2Proof.Machine

/-- Report PORT_LOST of a port (R167). -/
def State.reportPort (s : State) (q : PortId) (present : Bool) : State :=
  (s.modPort q fun port => { port with portLost := port.portLost.report present }).raiseIf
    ((s.port q).portLost.reportNotice present) .faults

/-- Whether another joined port holds this role, of which only one port may hold it (R153, R154). -/
def State.roleTaken (s : State) (q : PortId) (role : Role) : Bool :=
  role != .view && allPorts.any fun k => k != q && (s.port k).joined && (s.port k).role == some role

/-- A port as its JOIN leaves it (R154). -/
def Port.join (port : Port) (role : Role) (presence : Nat) : Port :=
  { port with
    state := .attached
    role := some role
    lastPhase := 1
    timer := some presence
    mask := allCategories
    pendingSet := 0 }

/-- The effects of a JOIN: PORTS at the other ports, and PORT_LOST absent for a port that was ABSENT (R154, R158). -/
def State.takeJoin (s : State) (q : PortId) (role : Role) : State :=
  let s1 := (s.modPort q fun port => port.join role s.tuning.presence).raisePortsOthers q
  if (s.port q).state = .absent then s1.reportPort q false else s1

/-- JOIN (R154). -/
def requestJoin : Request := fun q f s =>
  ensure (f.operands.length == 1) .length
  (match roleOfCode (number f.operands) with
   | none => refuse .range
   | some role =>
     ensure (!(s.port q).joined) .alreadyJoined
     (ensure (!s.roleTaken q role) .roleTaken
     (answerDone [byteOf q.val, roleCode (some role)] (s.takeJoin q role))))

/-- JOIN (R154). -/
def execJoin (q : PortId) (s : State) : Result := .next (takeTurn .join requestJoin q s)

/-- A port that gives up its role, in DETACHED or ABSENT: its queues and its overrun flag are kept (R150, R155, R157). -/
def Port.vacate (port : Port) (state : PortState) : Port :=
  { port with state := state, role := none, lastPhase := 1, timer := none, mask := 0, pendingSet := 0 }

/-- The effects of a LEAVE (R155): the port's role and its holds go (R39), CALL's legs close (R125), and PORTS is raised at the other ports. -/
def State.takeLeave (s : State) (q : PortId) : State :=
  let role := (s.port q).role
  let s1 := s.modPort q fun port => port.vacate .detached
  (takeVacancy s ((s1.dropRoleHolds role).vacateLegs role) role).raisePortsOthers q

/-- LEAVE (R155). -/
def requestLeave : Request := fun q f s =>
  ensure f.operands.isEmpty .length (answerDone [] (s.takeLeave q))

/-- LEAVE (R155). -/
def execLeave (q : PortId) (s : State) : Result := .next (takeTurn .leave requestLeave q s)

/-- The effects of an accepted PULSE (R156): a STALE port returns to ATTACHED, which PORTS reports at the others (R158). -/
def State.takePulse (s : State) (q : PortId) (phase : Nat) : State :=
  let s1 := s.modPort q fun port =>
    { port with state := .attached, lastPhase := phase, timer := some s.tuning.presence }
  if (s.port q).state = .stale then s1.raisePortsOthers q else s1

/-- PULSE (R156). -/
def requestPulse : Request := fun q f s =>
  ensure (f.operands.length == 1) .length
  (let phase := number f.operands
   ensure (decide (phase ≤ 1)) .range
   (ensure (phase != (s.port q).lastPhase) .repeated
   (answerDone f.operands (s.takePulse q phase))))

/-- PULSE (R156). -/
def execPulse (q : PortId) (s : State) : Result := .next (takeTurn .pulse requestPulse q s)

/-- NOTICES: the pending set as it stands, which is emptied (R159). -/
def requestNotices : Request := fun q f s =>
  ensure f.operands.isEmpty .length
  (ensure (s.roleIn q [.call, .room, .view]) .notPermitted
  (answerDone [categoryByte (s.port q).pendingSet] (s.modPort q fun port => { port with pendingSet := 0 })))

/-- NOTICES (R159). -/
def execNotices (q : PortId) (s : State) : Result := .next (takeTurn .notices requestNotices q s)

/-- WATCH: the watch mask, and the pending set less the categories that leave the mask (R159). -/
def requestWatch : Request := fun q f s =>
  ensure (f.operands.length == 1) .length
  (ensure (s.roleIn q [.call, .room, .view]) .notPermitted
  (let applied : CategorySet := BitVec.ofNat 7 (number f.operands)
   answerApplied (applied.toNat == number f.operands) [categoryByte applied]
     (s.modPort q fun port => { port with mask := applied, pendingSet := port.pendingSet &&& applied })))

/-- WATCH (R159). -/
def execWatch (q : PortId) (s : State) : Result := .next (takeTurn .watch requestWatch q s)

/-- The revision of the part this manual describes (R162). -/
def revision : Byte := 1

/-- IDENT (R162, Table 12-8): device code 2404, revision, port, its state and role, and the PRESENCE code. -/
def requestIdent : Request := fun q f s =>
  ensure f.operands.isEmpty .length
  (answerDone (bigEndian 2 2404 ++
    [revision, byteOf q.val, (s.port q).state.code, roleCode (s.port q).role, byteOf s.tuning.presence]) s)

/-- IDENT (R162). -/
def execIdent (q : PortId) (s : State) : Result := .next (takeTurn .ident requestIdent q s)

/-! ### Presence -/

/-- The first expiry (R157): the port enters STALE and keeps its role; PORTS at the other ports. -/
def State.enterStale (s : State) (q : PortId) : State :=
  (s.modPort q fun port =>
    { port with state := .stale, lastPhase := 1, timer := some s.tuning.presence }).raisePortsOthers q

/-- The second expiry (R157): the port enters ABSENT and its role falls vacant; its holds stay, orphaned (R40), CALL's legs close (R125), PORT_LOST is reported present, and PORTS is raised at the other ports. -/
def State.enterAbsent (s : State) (q : PortId) : State :=
  let role := (s.port q).role
  let s1 := s.modPort q fun port => port.vacate .absent
  ((takeVacancy s (s1.vacateLegs role) role).reportPort q true).raisePortsOthers q

/-- PRESENCE_TIMER_EXPIRY (R157). A port that is not joined has no timer running (Table 9-2; log 3). -/
def execPresenceTimerExpiry (q : PortId) (s : State) : Result :=
  match (s.port q).state with
  | .attached => finish (s.enterStale q)
  | .stale => finish (s.enterAbsent q)
  | .detached => .next s
  | .absent => .next s

end Sys2Proof.Machine
end

