-- ==== Sys2Proof/Machine/Faults.lean ====
section
/-! DEFINITION. The fault unit (chapter 10): READ_FAULTS (R168) and CLEAR_FAULTS (R169, R170). -/

namespace Sys2Proof.Machine

/-- A pod's four fault records as READ_CHANNEL byte 8: latches in bits 0 to 3, conditions in bits 4 to 7 (Table 12-5). -/
def Pod.faultByte (pod : Pod) : Byte :=
  byteOfBits [pod.podLost.latch, pod.podClip.latch, pod.podLocal.latch, pod.podErrors.latch,
    pod.podLost.condition, pod.podClip.condition, pod.podLocal.condition, pod.podErrors.condition]

/-- The 26 bytes of READ_FAULTS (Table 12-8). -/
def State.faultBytes (s : State) : List Byte :=
  (allPods.map fun p => (s.pod p).faultByte) ++
  [byteOfBits ((allPorts.map fun q => (s.port q).portLost.latch) ++ [false] ++
      (allPorts.map fun q => (s.port q).portLost.condition)),
   byteOfBits [s.audioClock.latch, s.storeTimeout, false, false, s.audioClock.condition]]

/-- READ_FAULTS (R168). -/
def requestReadFaults : Request := fun q f s =>
  ensure f.operands.isEmpty .length
  (ensure (s.roleIn q [.call, .room, .view]) .notPermitted (answerDone s.faultBytes s))

/-- READ_FAULTS (R168). -/
def execReadFaults (q : PortId) (s : State) : Result := .next (takeTurn .readFaults requestReadFaults q s)

/-- The scopes that a fault scope set names: pods 1 to 24 in bits 1 to 24, ports in 25 to 27, the device in 28; the other bits are dropped (R169, Table 12-1). -/
def scopesNamed (word : Nat) : Nat := 2 * (word / 2 % 2 ^ 28)

/-- The kinds that a fault kind set names: bits 0 to 6 (R169, Table 12-1). -/
def kindsNamed (byte : Nat) : Nat := byte % 2 ^ 7

/-- What a CLEAR_FAULTS selects (R170): its applied scope set and kind set. -/
structure Selection where
  scopes : Nat
  kinds : Nat
deriving DecidableEq, Repr

/-- Whether a pod's record of the kind with this bit is selected. -/
def Selection.pod (x : Selection) (p : PodId) (kind : Nat) : Bool := x.scopes.testBit (addressOf p) && x.kinds.testBit kind

/-- Whether a port's PORT_LOST record is selected. -/
def Selection.port (x : Selection) (q : PortId) : Bool := x.scopes.testBit (25 + q.val) && x.kinds.testBit 4

/-- Whether a device record of the kind with this bit is selected. -/
def Selection.device (x : Selection) (kind : Nat) : Bool := x.scopes.testBit 28 && x.kinds.testBit kind

/-- Step 1: the error counters of the pods selected with POD_ERRORS become 0, and their condition absent (R170). -/
def State.zeroCounters (s : State) (x : Selection) : State :=
  s.mapPods fun p pod =>
    if x.pod p 3 then
      { pod with timeouts := 0, checkFailures := 0, framingErrors := 0, podErrors := pod.podErrors.report false }
    else pod

/-- The records that a CLEAR_FAULTS selects (R164, R170); STORE_TIMEOUT is a latch without a condition. -/
def State.selectedRecords (s : State) (x : Selection) : List FaultRecord :=
  (allPods.flatMap fun p =>
    ([(0, (s.pod p).podLost), (1, (s.pod p).podClip), (2, (s.pod p).podLocal), (3, (s.pod p).podErrors)].filter
      fun r => x.pod p r.1).map Prod.snd) ++
  ((allPorts.filter x.port).map fun q => (s.port q).portLost) ++
  (if x.device 5 then [s.audioClock] else []) ++
  (if x.device 6 then [⟨s.storeTimeout, false⟩] else [])

/-- A selected record whose condition is absent loses its latch (R170). -/
def FaultRecord.clearIf (r : FaultRecord) (selected : Bool) : FaultRecord :=
  { r with latch := r.latch && !(selected && !r.condition) }

/-- Step 2: the latches of the selected records (R170). -/
def State.clearLatches (s : State) (x : Selection) : State :=
  let s1 := s.mapPods fun p pod =>
    { pod with
      podLost := pod.podLost.clearIf (x.pod p 0)
      podClip := pod.podClip.clearIf (x.pod p 1)
      podLocal := pod.podLocal.clearIf (x.pod p 2)
      podErrors := pod.podErrors.clearIf (x.pod p 3) }
  let s2 := s1.mapPorts fun q port => { port with portLost := port.portLost.clearIf (x.port q) }
  { s2 with
    audioClock := s.audioClock.clearIf (x.device 5)
    storeTimeout := s.storeTimeout && !x.device 6 }

/-- The number of latches that step 2 clears. -/
def clearedCount (rs : List FaultRecord) : Nat := rs.countP fun r => r.latch && !r.condition

/-- The number of selected latches that step 2 leaves set. -/
def leftCount (rs : List FaultRecord) : Nat := rs.countP fun r => r.latch && r.condition

/-- CLEAR_FAULTS: form and role (R169), then counters and latches; FAULTS is raised if a latch was cleared or a selected one left set (R170). -/
def requestClearFaults : Request := fun q f s =>
  ensure (f.operands.length == 5) .length
  (ensure (s.roleIn q [.call, .room]) .notPermitted
  (let scopeWord := number (f.operands.take 4)
   let kindWord := number (f.operands.drop 4)
   let x : Selection := ⟨scopesNamed scopeWord, kindsNamed kindWord⟩
   let s1 := s.zeroCounters x
   let rs := s1.selectedRecords x
   answerApplied (x.scopes == scopeWord && x.kinds == kindWord)
     (bigEndian 4 x.scopes ++ [byteOf x.kinds, byteOf (clearedCount rs), byteOf (leftCount rs)])
     ((s1.clearLatches x).raiseIf (decide (0 < clearedCount rs + leftCount rs)) .faults)))

/-- CLEAR_FAULTS (R170). -/
def execClearFaults (q : PortId) (s : State) : Result := .next (takeTurn .clearFaults requestClearFaults q s)

end Sys2Proof.Machine
end

