-- ==== Sys2Proof/Machine/Reads.lean ====
section
/-! DEFINITION. The read requests (R161): READ_CHANNEL, READ_TALKERS, READ_LEGS, READ_PORTS and READ_ROOM, with the layouts of Tables 12-5 to 12-8. READ_FAULTS is in Machine/Faults.lean. -/

namespace Sys2Proof.Machine

/-- A pod's position in the talker list, 1 for the head; 0 without an entry (Table 12-5). -/
def State.talkerPosition (s : State) (p : PodId) : Nat :=
  match s.talkers.findIdx? fun e => e.pod == p with
  | some i => i + 1
  | none => 0

/-- Bytes 13 to 22 of a channel record: trim, volume, exclusion set (Table 12-5). -/
def Pod.tableBytes (pod : Pod) : List Byte :=
  bigEndian 3 pod.trim ++ bigEndian 3 pod.volume ++ bigEndian 4 (podSetWord pod.excl)

/-- The record of a listed pod, 32 bytes (Table 12-5). -/
def State.listedRecord (s : State) (p : PodId) : List Byte :=
  let pod := s.pod p
  [byteOf (addressOf p), byteOfBits [true, pod.chair, s.muted p, pod.mutedTalk], pod.link.code, pod.holds.byte,
   byteOf pod.gate.code, byteOf (s.talkerPosition p), pod.pattern.code, byteOf pod.cls, pod.faultByte,
   byteOf pod.timeouts, byteOf pod.checkFailures, byteOf pod.framingErrors, byteOf pod.misses] ++
  pod.tableBytes ++ bigEndian 3 pod.muteEnv.now ++ bigEndian 3 pod.level ++ bigEndian 3 pod.floor

/-- The record of an unlisted pod, 23 bytes (R161, Table 12-5). -/
def State.unlistedRecord (s : State) (p : PodId) : List Byte :=
  let pod := s.pod p
  [byteOf (addressOf p), byteOfBits [false, pod.chair], pod.link.code, pod.holds.byte, 0, 0, Pattern.dark.code,
   byteOf pod.cls, pod.faultByte, byteOf pod.timeouts, byteOf pod.checkFailures, byteOf pod.framingErrors, 0] ++
  pod.tableBytes

/-- READ_CHANNEL (R85, R146, R161). -/
def requestReadChannel : Request := fun q f s =>
  ensure (f.operands.length == 1) .length
  (ensure (s.roleIn q [.call, .room, .view]) .notPermitted
  (match podOfAddress (number f.operands) with
   | none => refuse .range
   | some p => answerDone (if (s.pod p).listed then s.listedRecord p else s.unlistedRecord p) s))

/-- READ_CHANNEL (R161). -/
def execReadChannel (q : PortId) (s : State) : Result := .next (takeTurn .readChannel requestReadChannel q s)

/-- The remaining hold of an entry; 0 for OPEN and LAST (Table 12-6). -/
def TalkerState.remaining : TalkerState → Nat
  | .hold r => r
  | _ => 0

/-- The five bytes of a talker entry (Table 12-6). -/
def Talker.bytes (e : Talker) : List Byte :=
  [byteOf (addressOf e.pod + 32 * e.state.gate.code), byteOf (e.state.remaining / 256 + 64 * e.cls),
   byteOf e.state.remaining] ++ bigEndian 2 e.admission.toNat

/-- READ_TALKERS (R85). -/
def requestReadTalkers : Request := fun q f s =>
  ensure f.operands.isEmpty .length
  (ensure (s.roleIn q [.call, .room, .view]) .notPermitted (answerDone (s.talkers.flatMap Talker.bytes) s))

/-- READ_TALKERS (R85). -/
def execReadTalkers (q : PortId) (s : State) : Result := .next (takeTurn .readTalkers requestReadTalkers q s)

/-- The ten bytes of a leg (Table 12-7). -/
def Leg.bytes (leg : Leg) : List Byte :=
  byteOf (leg.state.code + 4 * leg.sendHolds.room.toNat + 8 * leg.sendHolds.call.toNat +
    16 * leg.receiveHolds.room.toNat + 32 * leg.receiveHolds.call.toNat) ::
  (bigEndian 3 leg.gain ++ bigEndian 3 leg.receiveEnv.now ++ bigEndian 3 leg.sendEnv.now)

/-- READ_LEGS (R117). -/
def requestReadLegs : Request := fun q f s =>
  ensure f.operands.isEmpty .length
  (ensure (s.roleIn q [.call, .room, .view]) .notPermitted
  (answerDone (allLegs.flatMap fun m => (s.leg m).bytes) s))

/-- READ_LEGS (R117). -/
def execReadLegs (q : PortId) (s : State) : Result := .next (takeTurn .readLegs requestReadLegs q s)

/-- The three bytes of a port (Table 12-7). -/
def Port.bytes (port : Port) : List Byte := [port.state.code, roleCode port.role, categoryByte port.mask]

/-- READ_PORTS (R161). -/
def requestReadPorts : Request := fun q f s =>
  ensure f.operands.isEmpty .length
  (ensure (s.roleIn q [.call, .room, .view]) .notPermitted
  (answerDone (allPorts.flatMap fun k => (s.port k).bytes) s))

/-- READ_PORTS (R161). -/
def execReadPorts (q : PortId) (s : State) : Result := .next (takeTurn .readPorts requestReadPorts q s)

/-- The eight bytes of READ_ROOM (Table 12-8). -/
def State.roomBytes (s : State) : List Byte :=
  privacyBytes s.privacy ++ [byteOf s.talkers.length] ++ bigEndian 3 (nomTarget s.talkers.length) ++
  [s.sync.code, byteOf s.installer.toNat]

/-- READ_ROOM (R161). -/
def requestReadRoom : Request := fun q f s =>
  ensure f.operands.isEmpty .length
  (ensure (s.roleIn q [.call, .room, .view]) .notPermitted (answerDone s.roomBytes s))

/-- READ_ROOM (R161). -/
def execReadRoom (q : PortId) (s : State) : Result := .next (takeTurn .readRoom requestReadRoom q s)

end Sys2Proof.Machine
end

