-- ==== Sys2Proof/Machine/Transactions.lean ====
section
/-! DEFINITION. Transactions at a controller port (R147 to R150): selection, the complete shifting out of a frame, and deselection; and the head frame's turn whatever its row (R151). -/

namespace Sys2Proof.Machine

/-- What each request row does. -/
def requestOf : RequestRow → Request
  | .badFrame => requestBadFrame
  | .unknown => requestUnknown
  | .join => requestJoin
  | .leave => requestLeave
  | .pulse => requestPulse
  | .notices => requestNotices
  | .watch => requestWatch
  | .ident => requestIdent
  | .holdOnPods => requestHoldOnPods
  | .holdOnLegs => requestHoldOnLegs
  | .holdOff => requestHoldOff
  | .releaseAll => requestReleaseAll
  | .privacyOn => requestPrivacyOn
  | .privacyOff => requestPrivacyOff
  | .legState => requestLegState
  | .gainTrim => requestGainTrim
  | .gainVolume => requestGainVolume
  | .gainLegGain => requestGainLegGain
  | .tuneSet => requestTuneSet
  | .tuneQuery => requestTuneQuery
  | .rosterList => requestRosterList
  | .rosterUnlist => requestRosterUnlist
  | .rosterChair => requestRosterChair
  | .rosterClass => requestRosterClass
  | .exclude => requestExclude
  | .readChannel => requestReadChannel
  | .readTalkers => requestReadTalkers
  | .readLegs => requestReadLegs
  | .readPorts => requestReadPorts
  | .readFaults => requestReadFaults
  | .readRoom => requestReadRoom
  | .clearFaults => requestClearFaults
  | .storeRead => requestStoreRead
  | .storeStatus => requestStoreStatus
  | .storeWrite => requestStoreWrite
  | .storeCommit => requestStoreCommit
  | .storeErase => requestStoreErase
  | .profileLoad => requestProfileLoad

/-- Take the head frame of a port's request queue, of whatever row it is (R151). -/
def takeHead (q : PortId) (s : State) : State :=
  match (s.port q).requests with
  | [] => s
  | f :: _ => takeTurn f.row (requestOf f.row) q s

/-! ### Selection -/

/-- The transaction that a selection opens (R147): the reply at the head, or the NONE frame, with the flags that stand as its first byte is shifted out (R152; log 8). -/
def Port.openTransaction (port : Port) : Transaction :=
  match port.replies with
  | [] => ⟨noneFrame port.flagsByte, false, port.overrun, false⟩
  | r :: _ => ⟨r.frame port.flagsByte, true, port.overrun, false⟩

/-- SELECTION (R147). A port that is selected already opens no second transaction (log 3). -/
def execSelection (q : PortId) (s : State) : Result :=
  match (s.port q).transaction with
  | some _ => .next s
  | none => .next (s.modPort q fun port => { port with transaction := some port.openTransaction })

/-! ### Shifting out -/

/-- A port once its transaction's frame has been shifted out completely: a reply leaves the queue (R148), and the overrun flag is cleared if the frame carried it set (R152). -/
def Port.afterShift (port : Port) (t : Transaction) : Port :=
  { port with
    transaction := some { t with complete := true }
    overrun := port.overrun && !t.carriesOverrun
    replies := if t.isReply then port.replies.tail else port.replies }

/-- The check byte of the frame of the port's transaction has been shifted out completely (R148). A head request frame that waited on a full reply queue is then taken (R151). -/
def completeShift (q : PortId) (s : State) : State :=
  match (s.port q).transaction with
  | none => s
  | some t =>
    if t.complete then s
    else
      let s1 := (s.modPort q fun port => port.afterShift t).settle
      if t.isReply && decide (replyLimit ≤ (s.port q).replies.length) then takeHead q s1 else s1

/-- REPLY_FULLY_SHIFTED_OUT (R148). Without a transaction, or a second time in one, no check byte is shifted out (log 3). -/
def execReplyFullyShiftedOut (q : PortId) (s : State) : Result := .next (completeShift q s)

/-! ### Deselection -/

/-- The most operand bytes of a request (9.2). -/
def maxOperands : Nat := 20

/-- The request frame that the bytes clocked in make (R147, R149): none for a fetch-only transaction or fewer than two bytes, a bad frame with the first test it fails, or a good one. -/
def judgeFrame : List Byte → Option RequestFrame
  | code :: len :: rest =>
    if code = 0x00 then none
    else if maxOperands < len.toNat ∨ rest.length ≠ len.toNat + 1 then some ⟨code, [], some .length⟩
    else if rest.getLast? ≠ some (crc8 (code :: len :: rest.dropLast)) then some ⟨code, [], some .check⟩
    else some ⟨code, rest.dropLast, none⟩
  | _ => none

/-- A completed frame joins the request queue, or is discarded with the overrun flag set when two wait (R150). -/
def Port.receive (port : Port) (f : RequestFrame) : Port :=
  if port.requests.length < requestLimit then { port with requests := port.requests ++ [f] }
  else { port with overrun := true }

/-- A port after its deselection: the transaction is over, and the frame clocked in, if any, is received (R149, R150). -/
def Port.deselect (port : Port) (t : Transaction) (clocked : List Bool) : Port :=
  let port1 := { port with transaction := none, lastSent := shiftedOut t.frame clocked.length }
  match judgeFrame (bytesClocked clocked) with
  | none => port1
  | some f => port1.receive f

/-- DESELECTION (R149, R150). When the clocks since the selection are enough for every bit of the frame shifted out, its check byte has been shifted out completely by now (R148; log 11). With no transaction in progress, as after a reset, nothing is received (R148; log 3). -/
def execDeselection (q : PortId) (clocked : List Bool) (s : State) : Result :=
  match (s.port q).transaction with
  | none => .next s
  | some t =>
    let s1 := if (wireLevels t.frame).length ≤ clocked.length then completeShift q s else s
    .next (s1.modPort q fun port => port.deselect t clocked)

end Sys2Proof.Machine
end

