-- ==== Sys2Proof/Machine/Dispatch.lean ====
section
/-! DEFINITION. The effect of each command on everything but the queue: one arm for each row of spec/opcode_table.json. -/

namespace Sys2Proof.Machine

def exec (i : Instr) (s : State) : Host.Outcome State Fault Refusal :=
  match i with
  | .powerUp install => Sys2Proof.Machine.execPowerUp install s
  | .resetN => Sys2Proof.Machine.execResetN s
  | .selection port => Sys2Proof.Machine.execSelection port s
  | .deselection port clocked => Sys2Proof.Machine.execDeselection port clocked s
  | .badFrame port => Sys2Proof.Machine.execBadFrame port s
  | .unknown port => Sys2Proof.Machine.execUnknown port s
  | .join port => Sys2Proof.Machine.execJoin port s
  | .leave port => Sys2Proof.Machine.execLeave port s
  | .pulse port => Sys2Proof.Machine.execPulse port s
  | .notices port => Sys2Proof.Machine.execNotices port s
  | .watch port => Sys2Proof.Machine.execWatch port s
  | .ident port => Sys2Proof.Machine.execIdent port s
  | .holdOnPods port => Sys2Proof.Machine.execHoldOnPods port s
  | .holdOnLegs port => Sys2Proof.Machine.execHoldOnLegs port s
  | .holdOff port => Sys2Proof.Machine.execHoldOff port s
  | .releaseAll port => Sys2Proof.Machine.execReleaseAll port s
  | .privacyOn port => Sys2Proof.Machine.execPrivacyOn port s
  | .privacyOff port => Sys2Proof.Machine.execPrivacyOff port s
  | .legState port => Sys2Proof.Machine.execLegState port s
  | .gainTrim port => Sys2Proof.Machine.execGainTrim port s
  | .gainVolume port => Sys2Proof.Machine.execGainVolume port s
  | .gainLegGain port => Sys2Proof.Machine.execGainLegGain port s
  | .tuneSet port => Sys2Proof.Machine.execTuneSet port s
  | .tuneQuery port => Sys2Proof.Machine.execTuneQuery port s
  | .rosterList port => Sys2Proof.Machine.execRosterList port s
  | .rosterUnlist port => Sys2Proof.Machine.execRosterUnlist port s
  | .rosterChair port => Sys2Proof.Machine.execRosterChair port s
  | .rosterClass port => Sys2Proof.Machine.execRosterClass port s
  | .exclude port => Sys2Proof.Machine.execExclude port s
  | .readChannel port => Sys2Proof.Machine.execReadChannel port s
  | .readTalkers port => Sys2Proof.Machine.execReadTalkers port s
  | .readLegs port => Sys2Proof.Machine.execReadLegs port s
  | .readPorts port => Sys2Proof.Machine.execReadPorts port s
  | .readFaults port => Sys2Proof.Machine.execReadFaults port s
  | .readRoom port => Sys2Proof.Machine.execReadRoom port s
  | .clearFaults port => Sys2Proof.Machine.execClearFaults port s
  | .storeRead port => Sys2Proof.Machine.execStoreRead port s
  | .storeStatus port => Sys2Proof.Machine.execStoreStatus port s
  | .storeWrite port => Sys2Proof.Machine.execStoreWrite port s
  | .storeCommit port => Sys2Proof.Machine.execStoreCommit port s
  | .storeErase port => Sys2Proof.Machine.execStoreErase port s
  | .profileLoad port => Sys2Proof.Machine.execProfileLoad port s
  | .storeCompletion => Sys2Proof.Machine.execStoreCompletion s
  | .eraseBlockCompletion => Sys2Proof.Machine.execEraseBlockCompletion s
  | .operationTimeout => Sys2Proof.Machine.execOperationTimeout s
  | .presenceTimerExpiry port => Sys2Proof.Machine.execPresenceTimerExpiry port s
  | .slotStart => Sys2Proof.Machine.execSlotStart s
  | .replyComplete echo counts flags checkHigh checkLow => Sys2Proof.Machine.execReplyComplete echo counts flags checkHigh checkLow s
  | .replyWindowCloses => Sys2Proof.Machine.execReplyWindowCloses s
  | .shortPress address => Sys2Proof.Machine.execShortPress address s
  | .longPress address => Sys2Proof.Machine.execLongPress address s
  | .shortPeriod => Sys2Proof.Machine.execShortPeriod s
  | .samplePeriodComplete clocks => Sys2Proof.Machine.execSamplePeriodComplete clocks s
  | .watchdogExpiry => Sys2Proof.Machine.execWatchdogExpiry s
  | .frameWork => Sys2Proof.Machine.execFrameWork s
  | .mixFrameEvent => Sys2Proof.Machine.execMixFrameEvent s
  | .replyFullyShiftedOut port => Sys2Proof.Machine.execReplyFullyShiftedOut port s

end Sys2Proof.Machine
end

