-- ==== Sys2Proof/Safety.lean ====
section
/-! DEFINITION. What the part keeps in every state it can reach: the laws of Table 0-5 and the ranges and relations the chapters give their state, as conditions on one state. `State.sound` gathers them. -/

namespace Sys2Proof.Machine

/-- Laws 1 and the ranges of Tables 1-1 and 1-2: classes, exclusion sets, gains, the chair set and the parameters (R2, R3). -/
abbrev State.tablesSound (s : State) : Prop :=
  (∀ p, (s.pod p).cls ≤ maxClass ∧ PodSet.has (s.pod p).excl p = true ∧ (s.pod p).trim ≤ maxTrim ∧
    (s.pod p).volume ≤ unity ∧ ((s.pod p).chair = true → (s.pod p).listed = true)) ∧
  (∀ m, (s.leg m).gain ≤ maxTrim) ∧
  (∀ x ∈ loadOrder, x.range.1 ≤ s.tuning.get x ∧ s.tuning.get x ≤ x.range.2)

/-- What an unlisted pod leaves at each block (R7, R16, R44, R62, R80, R93, R129). -/
abbrev Pod.cleared (pod : Pod) : Prop :=
  pod.link = .unlisted ∧ pod.holds = HoldSet.empty ∧ pod.mutedTalk = false ∧ pod.level = 0 ∧ pod.floor = 0 ∧
  pod.muteEnv = Ramp.flat 0 ∧ pod.gateEnv = Ramp.flat 0 ∧ pod.contrib = Ramp.flat 0 ∧ pod.contribEnd = 0 ∧ pod.misses = 0 ∧
  pod.localFault = false

/-- A pod in ONLINE or DOUBTFUL. -/
abbrev Pod.reachable (pod : Pod) : Prop := pod.link = .online ∨ pod.link = .doubtful

/-- Law 5, and the pod link's records: baselines exactly in ONLINE and DOUBTFUL, presses to deliver only there, and an awaited reply only of a listed pod (R7, R32, R37, R129, R138). -/
abbrev State.linkSound (s : State) : Prop :=
  (∀ p, ((s.pod p).listed = false → (s.pod p).cleared) ∧
    ((s.pod p).listed = true → (s.pod p).link ≠ .unlisted ∧
      ((s.pod p).holds.link = true ↔ ((s.pod p).link = .seeking ∨ (s.pod p).link = .lost))) ∧
    ((s.pod p).baselines.isSome = true ↔ (s.pod p).reachable) ∧
    (0 < (s.pod p).shortDue ∨ 0 < (s.pod p).longDue → (s.pod p).reachable) ∧
    (∀ b ∈ (s.pod p).baselines, b.short ≤ 15 ∧ b.long ≤ 15) ∧ (s.pod p).shortDue ≤ 15 ∧ (s.pod p).longDue ≤ 15 ∧
    (s.pod p).misses ≤ 8 ∧ (((s.pod p).link = .seeking ∨ (s.pod p).link = .doubtful) → (s.pod p).misses ≤ 7)) ∧
  (∀ x ∈ s.slot, x.judged = false → x.discard = false → (s.pod x.pod).listed = true)

/-- Laws 8 and 10, and Table 9-2: role, timer, mask and pending set by port state (R150, R151, R153, R159). -/
abbrev State.portsSound (s : State) : Prop :=
  (∀ q, ((s.port q).role.isSome = (s.port q).joined ∧ (s.port q).timer.isSome = (s.port q).joined) ∧
    ((s.port q).joined = false → (s.port q).mask = 0 ∧ (s.port q).pendingSet = 0 ∧ (s.port q).lastPhase = 1) ∧
    (s.port q).lastPhase ≤ 1 ∧ (s.port q).pendingSet &&& (s.port q).mask = (s.port q).pendingSet ∧
    (s.port q).requests.length ≤ 2 ∧ (s.port q).replies.length ≤ 4) ∧
  (∀ q k, q ≠ k → (s.port q).role = (s.port k).role →
    (s.port q).role = none ∨ (s.port q).role = some .view)

/-- Law 3, and the fields of a talker entry: its class is the pod's, its remaining hold is 1 to 2,000, and LAST stands at the head alone (R67, R71). -/
abbrev State.talkersSound (s : State) : Prop :=
  (s.talkers.map Talker.pod).Nodup ∧ s.talkers.length ≤ s.tuning.openLimit ∧
  (∀ e ∈ s.talkers, s.unmuted e.pod = true ∧ e.cls = (s.pod e.pod).cls) ∧
  (∀ e ∈ s.talkers, e.isHold = true → 1 ≤ e.state.remaining ∧ e.state.remaining ≤ 2000) ∧
  (∀ e ∈ s.talkers.tail, e.isLast = false) ∧
  (s.tuning.lastOn = 0 → ∀ e ∈ s.talkers, e.isLast = false)

/-- Law 9: the envelopes and the receive factor of a CLOSED leg are 0, with their previous values (R51, R88). -/
abbrev State.legsSound (s : State) : Prop :=
  ∀ m, (s.leg m).state = .closed →
    (s.leg m).receiveEnv = Ramp.flat 0 ∧ (s.leg m).sendEnv = Ramp.flat 0 ∧ (s.leg m).receiveFactor = Ramp.flat 0

/-- Both values of a gain are at most a bound. -/
abbrev Ramp.atMost (r : Ramp) (bound : Nat) : Prop := r.prev ≤ bound ∧ r.now ≤ bound

/-- Law 13, and the ranges of the envelopes, the frame gains, the levels and the floors (R44, R62, R88, R93). -/
abbrev State.gainsSound (s : State) : Prop :=
  (∀ p, (s.pod p).muteEnv.atMost unity ∧ (s.pod p).gateEnv.atMost unity ∧ (s.pod p).contrib.now ≤ (s.pod p).trim ∧
    (s.pod p).contrib.atMost maxTrim ∧ (s.pod p).contribEnd ≤ maxTrim ∧ (s.pod p).volumeGain.atMost unity ∧ (s.pod p).level ≤ maxLevel ∧ (s.pod p).floor ≤ maxLevel) ∧
  (∀ m, (s.leg m).receiveEnv.atMost unity ∧ (s.leg m).sendEnv.atMost unity ∧ (s.leg m).receiveFactor.atMost maxTrim) ∧
  s.nomGain.atMost unity ∧ 23170 ≤ s.nomGain.prev ∧ 23170 ≤ s.nomGain.now ∧ s.reinforceGain.atMost unity

/-- A sample in the sample range (00, "Samples"). -/
abbrev inSampleRange (v : Int) : Prop := minSample ≤ v ∧ v ≤ maxSample

/-- Law 12 for one output sample of each output. -/
abbrev OutputSample.sound (o : OutputSample) : Prop :=
  (∀ m : LegId, inSampleRange o.sends[m]) ∧ inSampleRange o.record ∧ (∀ p : PodId, inSampleRange o.feeds[p])

/-- A computed output frame: 48 samples of each output, all in range. -/
abbrev frameSound (f : List OutputSample) : Prop := f.length = frameLength ∧ ∀ o ∈ f, o.sound

/-- Law 12, and the frames on their way: 48 sample periods each, an assembly of fewer, none under way while frame sync is missing, the watchdog running outside MISSING, and fewer than 256 bit clocks of a period in which it ran out (R91, R110, R111, R113, R114). -/
abbrev State.lanesSound (s : State) : Prop :=
  (∀ f ∈ s.waiting, frameSound f) ∧ (∀ f ∈ s.inProgress, frameSound f) ∧
  s.assembly.length < frameLength ∧ (∀ w ∈ s.gateInput, w.samples.length = frameLength) ∧
  (∀ w ∈ s.mixInput, w.samples.length = frameLength) ∧ (s.watchdog = true ↔ s.sync ≠ .missing) ∧
  s.underway.length < periodClocks ∧ (s.sync ≠ .missing → s.underway = []) ∧
  (s.sync ≠ .running → s.gateInput = none ∧ s.mixInput = none ∧ s.waiting = none ∧ s.inProgress = none)

/-- Before the first frame GE and ME stand as a soft start would leave them (R113). -/
abbrev State.startSound (s : State) : Prop :=
  s.sync = .starting →
    s.talkers = [] ∧ s.nomGain = Ramp.flat unity ∧
    (∀ p, (s.pod p).muteEnv = Ramp.flat 0 ∧ (s.pod p).gateEnv = Ramp.flat 0 ∧ (s.pod p).contrib = Ramp.flat 0 ∧
      (s.pod p).contribEnd = 0 ∧ (s.pod p).level = 0 ∧ (s.pod p).floor = 0 ∧ (s.pod p).mutedTalk = false) ∧
    (∀ m, (s.leg m).receiveEnv = Ramp.flat 0 ∧ (s.leg m).sendEnv = Ramp.flat 0 ∧ (s.leg m).receiveFactor = Ramp.flat 0)

/-- The store operation in progress stays within the store, the section and the mode it began in (R172, R175, R177). -/
abbrev StoreOp.sound (op : StoreOp) (installer : Bool) : Prop :=
  match op with
  | .idle => True
  | .writing address data => address + data.length ≤ storeSize
  | .committing sect => sect ≤ maxSection
  | .erasing sect block =>
    sect ≤ maxSection ∧ firstBlock sect ≤ block ∧ block ≤ lastBlock sect ∧ installer = true

/-- The store is in its canonical form and its operation in bounds. -/
abbrev State.storeSound (s : State) : Prop := Memory.wf s.store = true ∧ s.storeOp.sound s.installer

/-- A record whose condition is present is latched (R165). -/
abbrev FaultRecord.sound (r : FaultRecord) : Prop := r.condition = true → r.latch = true

/-- Table 10-1: each condition is what its block's state gives, and a condition that is present is latched (R164, R165). -/
abbrev State.faultsSound (s : State) : Prop :=
  (∀ p, ((s.pod p).podLost.sound ∧ (s.pod p).podClip.sound ∧ (s.pod p).podLocal.sound ∧ (s.pod p).podErrors.sound) ∧
    ((s.pod p).podLost.condition = true ↔ (s.pod p).link = .lost) ∧
    ((s.pod p).podClip.condition = true → (s.pod p).listed = true) ∧
    (s.pod p).podLocal.condition = (s.pod p).localFault ∧
    ((s.pod p).podErrors.condition = true ↔
      ((s.pod p).timeouts = 255 ∨ (s.pod p).checkFailures = 255 ∨ (s.pod p).framingErrors = 255)) ∧
    (s.pod p).timeouts ≤ 255 ∧ (s.pod p).checkFailures ≤ 255 ∧ (s.pod p).framingErrors ≤ 255) ∧
  (∀ q, (s.port q).portLost.sound ∧ ((s.port q).portLost.condition = true ↔ (s.port q).state = .absent)) ∧
  s.audioClock.sound ∧ (s.audioClock.condition = true ↔ s.sync = .missing)

/-- Nothing is left to recompute: gate states, MA's copies of the flags, indicator entries and attention lines are what the rest of the state gives (R56, R58, R68, R160). Law 6 follows. -/
def State.settled (s : State) : Prop := s.settle = s

/-- A state in which every law and every relation above holds. -/
structure State.sound (s : State) : Prop where
  settled : s.settled
  tables : s.tablesSound
  link : s.linkSound
  ports : s.portsSound
  talkers : s.talkersSound
  legs : s.legsSound
  gains : s.gainsSound
  lanes : s.lanesSound
  start : s.startSound
  store : s.storeSound
  faults : s.faultsSound

/-! ### What a profile load gives -/

/-- The store byte at an address (R172). -/
def State.byteAt (s : State) (a : Nat) : Byte := Memory.read s.store a

/-- The number stored in `n` bytes from an address on, most significant byte first (R180). -/
def State.storedNumber (s : State) (a n : Nat) : Nat := number (Memory.readMany s.store a n)

/-- The room tables of `t` are those that the store of `s` gives: stored values of committed sections, clamped, and the defaults of blank ones (R180, Tables 1-1, 1-2 and 12-10). -/
structure TablesFrom (s t : State) : Prop where
  listed : ∀ p, (t.pod p).listed = (!s.commitMap.getLsbD 1 || (s.storedNumber 64 4).testBit (addressOf p))
  chair : ∀ p, (t.pod p).chair =
    (s.commitMap.getLsbD 1 && (s.storedNumber 68 4).testBit (addressOf p) && (t.pod p).listed)
  cls : ∀ p, (t.pod p).cls = if s.commitMap.getLsbD 1 then min 3 (s.storedNumber (71 + addressOf p) 1) else 1
  excl : ∀ p i, PodSet.has (t.pod p).excl i =
    (decide (i = p) || (s.commitMap.getLsbD 2 && (s.storedNumber (128 + 4 * (addressOf p - 1)) 4).testBit (addressOf i)))
  trim : ∀ p, (t.pod p).trim =
    if s.commitMap.getLsbD 3 then min 131072 (s.storedNumber (256 + 3 * (addressOf p - 1)) 3) else 65536
  volume : ∀ p, (t.pod p).volume =
    if s.commitMap.getLsbD 3 then min 65536 (s.storedNumber (328 + 3 * (addressOf p - 1)) 3) else 65536
  legGain : ∀ m, (t.leg m).gain =
    if s.commitMap.getLsbD 3 then min 131072 (s.storedNumber (400 + 3 * m.val) 3) else 65536
  tuning : ∀ x : Param, t.tuning.get x =
    if s.commitMap.getLsbD x.place.1 then x.clamp (s.storedNumber x.place.2.1 x.place.2.2) else Tuning.defaults.get x

/-! ### What claims say of one command -/

/-- A command completes and leaves a state of which `P` holds. -/
def leaves (o : Result) (P : State → Prop) : Prop := ∃ t, o = .next t ∧ P t

/-- The command of a request row at a port. -/
def RequestRow.command (q : PortId) : RequestRow → Instr
  | .badFrame => .badFrame q
  | .unknown => .unknown q
  | .join => .join q
  | .leave => .leave q
  | .pulse => .pulse q
  | .notices => .notices q
  | .watch => .watch q
  | .ident => .ident q
  | .holdOnPods => .holdOnPods q
  | .holdOnLegs => .holdOnLegs q
  | .holdOff => .holdOff q
  | .releaseAll => .releaseAll q
  | .privacyOn => .privacyOn q
  | .privacyOff => .privacyOff q
  | .legState => .legState q
  | .gainTrim => .gainTrim q
  | .gainVolume => .gainVolume q
  | .gainLegGain => .gainLegGain q
  | .tuneSet => .tuneSet q
  | .tuneQuery => .tuneQuery q
  | .rosterList => .rosterList q
  | .rosterUnlist => .rosterUnlist q
  | .rosterChair => .rosterChair q
  | .rosterClass => .rosterClass q
  | .exclude => .exclude q
  | .readChannel => .readChannel q
  | .readTalkers => .readTalkers q
  | .readLegs => .readLegs q
  | .readPorts => .readPorts q
  | .readFaults => .readFaults q
  | .readRoom => .readRoom q
  | .clearFaults => .clearFaults q
  | .storeRead => .storeRead q
  | .storeStatus => .storeStatus q
  | .storeWrite => .storeWrite q
  | .storeCommit => .storeCommit q
  | .storeErase => .storeErase q
  | .profileLoad => .profileLoad q

/-- A good frame of a request code with these operand bytes (R149). -/
def goodFrame (code : Byte) (operands : List Byte) : RequestFrame := ⟨code, operands, none⟩

/-- The frame at the head of a port's request queue is to be taken: the reply queue has room (R151), and the event before left nothing to recompute. -/
structure AtTurn (s : State) (q : PortId) (f : RequestFrame) (rest : List RequestFrame) : Prop where
  settled : s.settled
  requests : (s.port q).requests = f :: rest
  room : (s.port q).replies.length < 4

/-- A port that is ATTACHED or STALE in a role (R153). -/
structure JoinedAs (s : State) (q : PortId) (role : Role) : Prop where
  state : (s.port q).state = .attached ∨ (s.port q).state = .stale
  role : (s.port q).role = some role

/-- A port whose head frame has been answered: the frame has left, one reply has joined, and the attention line is asserted (R151, R160). -/
def Port.answered (port : Port) (rest : List RequestFrame) (r : Reply) : Port :=
  { port with requests := rest, replies := port.replies ++ [r], attention := true }

/-- The state with one port's head frame answered and nothing else changed. -/
def State.answered (s : State) (q : PortId) (rest : List RequestFrame) (r : Reply) : State :=
  s.modPort q fun port => port.answered rest r

/-- A category that is raised or not. -/
def onlyIf (b : Bool) (c : Category) : CategorySet := if b then c.bit else 0

/-- A port after notices of these categories: each that it watches is pending, and its attention line follows (R158, R160). -/
def Port.noticed (port : Port) (cs : CategorySet) : Port :=
  if port.joined then
    { port with
      pendingSet := port.pendingSet ||| (port.mask &&& cs)
      attention := !port.replies.isEmpty || decide (port.pendingSet ||| (port.mask &&& cs) ≠ 0) }
  else port

/-- The state with notices of these categories at every watching port, and nothing else changed. -/
def State.noticed (s : State) (cs : CategorySet) : State := s.mapPorts fun _ port => port.noticed cs

/-- A pod record with what follows from the state an event leaves: its gate state, MA's copy of its flag and its indicator entry (R56, R58, R68). -/
def Pod.following (pod : Pod) (t : State) (p : PodId) : Pod :=
  { pod with gate := t.gateOf p, flagCopy := pod.mutedTalk, pattern := t.patternOf p }

/-- The talker list once the channels that an event made resolved-muted have left it (R21). -/
def talkersLeft (s t : State) : List Talker := s.talkers.filter fun e => !(s.unmuted e.pod && t.muted e.pod)

/-- A muted-talk flag once an event has made channels resolved-unmuted (R21). -/
def flagLeft (s t : State) (p : PodId) : Bool := (s.pod p).mutedTalk && !(s.muted p && t.unmuted p)

/-- Whether an event changed the talker list or a muted-talk flag. -/
def talkersMoved (s t : State) : Bool :=
  decide (s.talkers ≠ t.talkers) || allPods.any fun p => (s.pod p).mutedTalk != (t.pod p).mutedTalk

/-- The pod of the next slot: the lowest listed address above the last-polled address, else the lowest listed address (R131). -/
def State.nextSlotIs (s : State) (p : PodId) : Prop :=
  (s.pod p).listed = true ∧
  ((s.lastPolled < addressOf p ∧ ∀ k, (s.pod k).listed = true → s.lastPolled < addressOf k → p ≤ k) ∨
   ((∀ k, (s.pod k).listed = true → addressOf k ≤ s.lastPolled) ∧ ∀ k, (s.pod k).listed = true → p ≤ k))

/-- A slot that a frame judgement can still act on: begun, not judged, and its pod not unlisted since (R134, R145). -/
structure Awaiting (s : State) (x : Slot) : Prop where
  slot : s.slot = some x
  judged : x.judged = false
  discard : x.discard = false

/-- One character as it stands on the pod link after the line's rest (R130): `rest` bit times at 1 before its start bit, and, where the character before it had a bad stop bit, `low` more bit times at 0 and then one at 1 at the least. -/
structure LineSegment where
  low : Nat
  rest : Nat
  data : Byte
  marker : Bool
  stop : Bool
deriving DecidableEq, Repr

/-- A character with its marker at 0 and its stop bit at 1, as a pod sends it (R130). -/
def LineSegment.good (u : LineSegment) : Bool := !u.marker && u.stop

/-- The eleven bits of a character: a start bit at 0, eight data bits with the least significant first, a marker bit and a stop bit (R130). -/
def characterBits (data : Byte) (marker stop : Bool) : List Bool :=
  [false, data.getLsbD 0, data.getLsbD 1, data.getLsbD 2, data.getLsbD 3, data.getLsbD 4, data.getLsbD 5, data.getLsbD 6,
    data.getLsbD 7, marker, stop]

/-- The levels of the line that carry characters one after the other; `bad` says that the stop bit before them was a bad one (R130). -/
def levelsOf (bad : Bool) : List LineSegment → List Bool
  | [] => []
  | u :: more =>
    (if bad then List.replicate u.low false ++ [true] else []) ++ List.replicate u.rest true ++
      characterBits u.data u.marker u.stop ++ levelsOf (!u.stop) more

/-- What PL puts out to send characters with these markers and data: their bits back to back with the direction output asserted, and then the line released at 1 (R130). -/
def sentLevels (chars : List (Bool × Byte)) : List LinkBit :=
  (chars.flatMap fun (marker, data) => (characterBits data marker true).map fun level => ⟨true, level⟩) ++ [⟨false, true⟩]

/-- What PL puts out for a poll: the address character with its marker at 1, the pattern character, and the two check characters, most significant byte first (R130, R132, R133, Table 12-9). -/
def pollLevels (p : PodId) (pattern : Pattern) : List LinkBit :=
  let check := crc16 [byteOf (addressOf p), pattern.code]
  sentLevels [(true, byteOf (addressOf p)), (false, pattern.code), (false, check.extractLsb' 8 8), (false, check.extractLsb' 0 8)]

/-- Frame work and mixing of the frames under way, one after the other: what stands once they have been taken (log 11). -/
def FramesTaken (s t : State) : Prop :=
  ∃ s1 s2, exec .mixFrameEvent s = .next s1 ∧ exec .frameWork s1 = .next s2 ∧ exec .mixFrameEvent s2 = .next t

/-- The bits of bytes in the order a port's data wire carries them, one for each clock: each byte's most significant bit first (R147). -/
def wireBits (bytes : List Byte) : List Bool :=
  bytes.flatMap fun b =>
    [b.getLsbD 7, b.getLsbD 6, b.getLsbD 5, b.getLsbD 4, b.getLsbD 3, b.getLsbD 2, b.getLsbD 1, b.getLsbD 0]

/-- An output wire carries a value in a slot, at the bit clocks that `out` holds from the one numbered `first` on: the value's 32 bits at the slot's bit clocks, most significant bit first (R109). -/
def carriesSlot (out : List LaneLevels) (first : Nat) (wire : LaneLevels → Bool) (slot : Nat) (w : BitVec 32) : Prop :=
  ∀ i < 32, first ≤ 32 * slot + i → ∀ x, out[32 * slot + i]? = some x → wire x = w.getMsbD i

/-- The output wires carry one output sample in the slots of Table 6-1, its 24 bits first and 8 bits of 0 after them, and 0 in the slots that carry none (R108, R109). -/
def carriesSample (out : List LaneLevels) (first : Nat) (o : OutputSample) : Prop :=
  (∀ p : PodId, carriesSlot out first (fun x => x.podOut[p.val / 8]'(by omega)) (p.val % 8) (BitVec.ofInt 24 o.feeds[p] ++ 0#8)) ∧
  (∀ m : LegId, carriesSlot out first LaneLevels.legOut m.val (BitVec.ofInt 24 o.sends[m] ++ 0#8)) ∧
  carriesSlot out first LaneLevels.legOut 4 (BitVec.ofInt 24 o.record ++ 0#8) ∧
  ∀ slot ∈ [5, 6, 7], carriesSlot out first LaneLevels.legOut slot 0

/-- What the output wires carry at this many bit clocks of a sample period of index `k`, of which those of `before` have passed: that sample of the frame in progress, 0 without one (R111), and 0 at every bit clock after the 256th (R109). -/
def carriesIndex (out before : List LaneLevels) (frame : Option (List OutputSample)) (k clocks : Nat) : Prop :=
  out.length = clocks ∧ before <+: out ∧ (∀ i x, 256 ≤ i → out[i]? = some x → x = LaneLevels.low) ∧
  match frame.bind fun f => f[k]? with
  | some o => carriesSample out before.length o
  | none => ∀ i x, before.length ≤ i → out[i]? = some x → x = LaneLevels.low

/-- The input slots that the bit clocks of a sample period shift in: each slot's 32 bits, most significant bit first (R109). -/
def shiftedIn (clocks : List LaneClock) (l : LaneInput) : Prop :=
  ∀ slot : Fin 8, ∀ i < 32, ∀ c, clocks[32 * slot.val + i]? = some c →
    (∀ lane : Fin 3, l.podIn[lane][slot].getMsbD i = c.podIn[lane]) ∧ l.legIn[slot].getMsbD i = c.legIn

/-- What the tracking part finds for a channel in a frame (R63 to R66). -/
def State.trackedIn (s : State) (w : WorkFrame) (p : PodId) : Tracked := trackPod s.tuning (s.pod p) (w.podSamples p)

/-- An entry that stays in the entries part, as Table 4-2 leaves it; absent when it expires. -/
def entryStays (t : Tuning) (qualifies : Bool) (e : Talker) : Option Talker :=
  if qualifies then some { e with state := .opened }
  else match e.state with
    | .opened => if t.gateHold = 0 then none else some { e with state := .hold t.gateHold }
    | .hold r => if r ≤ 1 then none else some { e with state := .hold (r - 1) }
    | .last => some e

/-- The talker list after the entries part: the entries that stay, or, when none stays and LAST_ON is 1, the newest as LAST (R69 to R72). -/
def State.entriesAfter (s : State) (w : WorkFrame) : List Talker :=
  let kept := s.talkers.filterMap fun e => entryStays s.tuning (s.trackedIn w e.pod).qualifies e
  if kept = [] ∧ s.tuning.lastOn = 1 then
    (s.talkers.getLast?.map fun e : Talker => { e with state := .last }).toList
  else kept

/-- A candidate for admission in a frame (R73). -/
def State.candidate (s : State) (w : WorkFrame) (p : PodId) : Prop :=
  (s.trackedIn w p).qualifies = true ∧ s.unmuted p = true ∧ ∀ e ∈ s.entriesAfter w, e.pod ≠ p

/-- Candidate `a` ranks before candidate `b`: by class, then new level, highest first, then pod address, lowest first (R73). -/
def State.ranksBefore (s : State) (w : WorkFrame) (a b : PodId) : Prop :=
  (s.pod b).cls < (s.pod a).cls ∨ ((s.pod a).cls = (s.pod b).cls ∧
    ((s.trackedIn w b).level < (s.trackedIn w a).level ∨
      ((s.trackedIn w a).level = (s.trackedIn w b).level ∧ a < b)))

/-- Whether an entry is displaced before another that stays, given the list admission meets (R75, R76): LAST first, then HOLD of the lowest class, oldest first, then OPEN of the lowest class, newest first. -/
def displacedBefore (l : List Talker) (gone kept : Talker) : Prop :=
  let older := l.idxOf gone < l.idxOf kept
  if gone.isLast then True
  else if gone.isOpen then kept.isOpen = true ∧ (gone.cls < kept.cls ∨ (gone.cls = kept.cls ∧ ¬ older))
  else kept.isLast = false ∧ (kept.isOpen = true ∨ gone.cls < kept.cls ∨ (gone.cls = kept.cls ∧ older))

/-- A value that moves toward a target by at most a step (R46). -/
def moved (now target step : Nat) : Nat := if now < target then min target (now + step) else max target (now - step)

/-- Whether an operand count fits a form of the request, whose first operand byte is `first`: the forms of its code, and for ROSTER those of the sub-operation named (R4, R24, R119, R182, Table 12-4). A sub-operation that names none is judged against all four (log 9). -/
abbrev operandsFit (code first n : Nat) : Prop :=
  if code ∈ [0x02, 0x04, 0x06, 0x13, 0x14, 0x41, 0x42, 0x43, 0x44, 0x46, 0x54, 0x55] then n = 0
  else if code ∈ [0x01, 0x03, 0x05, 0x40, 0x52, 0x53] then n = 1
  else if code = 0x12 then 1 ≤ n ∧ n ≤ 4
  else if code = 0x20 then n = 2
  else if code = 0x50 then n = 3
  else if code = 0x30 ∨ code = 0x45 then n = 5
  else if code = 0x31 then n = 1 ∨ n = 4
  else if code = 0x51 then 3 ≤ n ∧ n ≤ 18
  else if code = 0x32 ∧ first = 2 then 3 ≤ n ∧ n ≤ 6
  else if code = 0x32 ∧ first = 3 then n = 3
  else if code = 0x32 ∧ 3 < first then 2 ≤ n ∧ n ≤ 6
  else 2 ≤ n ∧ n ≤ 5

/-- Whether the kind, sub-operation, choice or target code of a request names one (R4, R24, R119, Table 12-2). -/
abbrev codesName (code first second : Nat) : Prop :=
  if code = 0x10 ∨ code = 0x11 ∨ code = 0x30 then first ≤ 2
  else if code = 0x20 then second ≤ 2
  else if code = 0x32 then first ≤ 3 ∧ (first = 2 → second ≤ 1)
  else True

/-- Whether a role may send a request of this code, first operand byte and operand count (Table 9-3). -/
abbrev rolePermitted (role : Role) (code first n : Nat) : Prop :=
  if code ∈ [0x10, 0x11, 0x13, 0x14, 0x45] ∨ (code = 0x30 ∧ first = 2) then role ≠ .view
  else if code ∈ [0x12, 0x30, 0x32, 0x33, 0x51, 0x52, 0x53, 0x55] ∨ (code = 0x31 ∧ n = 4) then role = .room
  else if code = 0x20 then role = .call
  else True

/-- Whether the single index or number of a request, given its first three operand bytes, is in its range: a pod address, leg index, tuning id, role, phase, section, or store address and count (R4, R119, R154, R156, R161, R174 to R177). -/
abbrev indexInRange (code first second third : Nat) : Prop :=
  if code = 0x33 ∨ code = 0x40 then 1 ≤ first ∧ first ≤ 24
  else if (code = 0x30 ∧ first ≤ 1) ∨ (code = 0x32 ∧ first = 3) then 1 ≤ second ∧ second ≤ 24
  else if code = 0x30 then second ≤ 3
  else if code = 0x20 then first ≤ 3
  else if code = 0x31 then 1 ≤ first ∧ first ≤ 15
  else if code = 0x01 then first ≤ 2
  else if code = 0x03 then first ≤ 1
  else if code = 0x52 ∨ code = 0x53 then first ≤ 7
  else if code = 0x51 then 256 * first + second < 1024
  else if code = 0x50 then 256 * first + second < 1024 ∧ 1 ≤ third ∧ third ≤ 16
  else True

/-- The first refusal that the form, the codes, the role and the index of a joined port's request give, in this order (R4, R24, R119, R163). -/
def firstRefusal (role : Role) (code : Nat) (operands : List Byte) : Option Reason :=
  let byte := fun i => (operands.getD i 0).toNat
  if ¬ operandsFit code (byte 0) operands.length then some .length
  else if ¬ codesName code (byte 0) (byte 1) then some .range
  else if ¬ rolePermitted role code (byte 0) operands.length then some .notPermitted
  else if ¬ indexInRange code (byte 0) (byte 1) (byte 2) then some .range
  else none

/-- Whether an entry may be cut before another that stays, given the list they stand in (R15): HOLD and LAST before OPEN; of HOLD and LAST the lowest class, then the oldest; of OPEN the lowest class, then the newest. -/
def cutBefore (l : List Talker) (gone kept : Talker) : Prop :=
  let older := l.idxOf gone < l.idxOf kept
  if gone.isOpen then kept.isOpen = true ∧ (gone.cls < kept.cls ∨ (gone.cls = kept.cls ∧ ¬ older))
  else kept.isOpen = true ∨ gone.cls < kept.cls ∨ (gone.cls = kept.cls ∧ older)

/-- The records of the fault unit that are latched in `s` and not in `t`, counted. -/
def latchesCleared (s t : State) : Nat :=
  let gone := fun (r r' : FaultRecord) => (r.latch && !r'.latch).toNat
  (allPods.map fun p => gone (s.pod p).podLost (t.pod p).podLost + gone (s.pod p).podClip (t.pod p).podClip +
    gone (s.pod p).podLocal (t.pod p).podLocal + gone (s.pod p).podErrors (t.pod p).podErrors).sum +
  (allPorts.map fun q => gone (s.port q).portLost (t.port q).portLost).sum +
  gone s.audioClock t.audioClock + (s.storeTimeout && !t.storeTimeout).toNat

/-- The latched records of `t` that a scope set and a kind set name, counted (R170). -/
def latchesNamed (t : State) (scopes kinds : Nat) : Nat :=
  let named := fun (scope kind : Nat) (r : FaultRecord) => (scopes.testBit scope && kinds.testBit kind && r.latch).toNat
  (allPods.map fun p => named (addressOf p) 0 (t.pod p).podLost + named (addressOf p) 1 (t.pod p).podClip +
    named (addressOf p) 2 (t.pod p).podLocal + named (addressOf p) 3 (t.pod p).podErrors).sum +
  (allPorts.map fun q => named (25 + q.val) 4 (t.port q).portLost).sum +
  named 28 5 t.audioClock + (scopes.testBit 28 && kinds.testBit 6 && t.storeTimeout).toNat

/-- A byte carries these bits, bit 0 first, and 0 in the bits above them (R182). -/
def Carries (b : Byte) (bits : List Bool) : Prop := ∀ i < 8, b.getLsbD i = bits.getD i false

/-- A set that keeps the members of a bit set that pass a test, and no others (R5, R24). -/
def Keeps (word applied : Nat) (ok : Nat → Bool) : Prop := ∀ i, applied.testBit i = (word.testBit i && ok i)

/-- A bit of a pod set that names a pod 1 to 24 (Table 12-1). -/
def namesPod (i : Nat) : Bool := allPods.any fun p => addressOf p == i

/-- A bit of a pod set that names a listed pod. -/
def State.namesListed (s : State) (i : Nat) : Bool := allPods.any fun p => addressOf p == i && (s.pod p).listed

/-- Every pod record after an event at MA: hold sets as the event leaves them, flags as R21 leaves them, and what follows. -/
def heldPods (s t : State) : Prop :=
  ∀ p, t.pod p = ({ s.pod p with holds := (t.pod p).holds, mutedTalk := flagLeft s t p } : Pod).following t p

/-- The notices of an event at MA: HOLDS if a hold set or the privacy record changed, TALKERS if the talker list or a flag changed (R21, R22). -/
def holdNotices (s t : State) : CategorySet := onlyIf (holdsDiffer s t) .holds ||| onlyIf (talkersMoved s t) .talkers

end Sys2Proof.Machine
end

