-- ==== Sys2Proof/Certificates/Slice0/Obligations.lean ====
section
/-! DEFINITION. The statements for the provers. In each, `AtTurn s q f rest` says that frame `f` is at the head of port `q`'s request queue, that the reply queue has room, and that nothing is left to recompute. -/

open Sys2Proof Sys2Proof.Machine

/-! ## Steps and resets -/

/-- A step takes the command at the front of the queue and runs it with the rest waiting; on an empty queue the part idles (log 1). -/
def Obligations.StepRunsTheFrontCommand : Prop :=
  ∀ (c : Instr) (rest : List Instr) (s : State),
    step { s with pending := c :: rest } = exec c { s with pending := rest } ∧
    step { s with pending := [] } = .next { s with pending := [] }

/-- R172, R180: power-up and RESET_N of a part whose store has never been written leave the reset state; power-up samples INSTALL and RESET_N leaves the installer-mode flag. What State.reset holds beyond the rules is the model's choice: the strap and the store (log 2), no slot in progress (log 10), no late completions (log 14), and the model's own lastSent (log 8) and free-value index (log 5). -/
def Obligations.ResetOfAnUnwrittenPart : Prop :=
  ∀ (s : State) (install : Bool), s.store = [] → s.commitMap = 0 → s.storeOp = .idle →
    exec (.powerUp install) s =
      .next { State.reset with pending := s.pending, installer := install, freeCount := s.freeCount } ∧
    exec .resetN s =
      .next { State.reset with pending := s.pending, installer := s.installer, freeCount := s.freeCount }

/-- The blocks' values after any reset, whatever the store holds, with the room tables that its load gives (R2, R3, R180, R16, R19, R44, R54, R60, R62, R67, R88, R110, R113, R117, R129, R153, R164, R172). No slot is in progress (log 10); the model's own fields and the late completions stand as logs 5, 8 and 14 say. -/
def Obligations.BlocksAfterAnyReset : Prop :=
  ∀ (s : State) (c : Instr), (c = .resetN ∨ ∃ install, c = .powerUp install) →
    leaves (exec c s) fun t =>
      (∀ p, t.pod p = { t.pod p with
        holds := if (t.pod p).listed then HoldSet.linkOnly else HoldSet.empty
        flagCopy := false, mutedTalk := false, level := 0, floor := 0, gate := .closed
        pattern := if (t.pod p).listed then (if t.privacy.isSome then .privateRoom else .mutedHeld) else .dark
        muteEnv := Ramp.flat 0, gateEnv := Ramp.flat 0, contrib := Ramp.flat 0, contribEnd := 0
        volumeGain := Ramp.flat (t.pod p).volume
        link := if (t.pod p).listed then .seeking else .unlisted
        misses := 0, baselines := none, shortDue := 0, longDue := 0
        timeouts := 0, checkFailures := 0, framingErrors := 0, localFault := false
        podLost := FaultRecord.clear, podClip := FaultRecord.clear
        podLocal := FaultRecord.clear, podErrors := FaultRecord.clear }) ∧
      (∀ m, t.leg m = { Leg.base with gain := (t.leg m).gain }) ∧
      t.privacy = (if t.tuning.startPrivate = 1 then some .start else none) ∧
      t = { State.reset with
        pending := s.pending, pods := t.pods, legs := t.legs, tuning := t.tuning, privacy := t.privacy
        reinforceGain := Ramp.flat t.tuning.reinforce
        store := t.store, commitMap := t.commitMap, installer := t.installer, freeCount := t.freeCount } ∧
      t.installer = (match c with | .powerUp install => install | _ => s.installer) ∧
      (s.storeOp = .idle → t.store = s.store ∧ t.commitMap = s.commitMap) ∧ TablesFrom t t

/-- R178, R179: what an interrupted operation leaves in the store and the commit map, whether a timeout or a reset interrupts it; each byte concerned holds its old or its new value, a free value of the model (log 5). After a reset the last result is OK, with no STORE notice and no STORE_TIMEOUT. -/
def Obligations.InterruptedOperations : Prop :=
  ∀ (s t : State) (c : Instr), s.storeSound →
    (c = .operationTimeout ∨ c = .resetN ∨ ∃ install, c = .powerUp install) → exec c s = .next t →
    (∀ address data, s.storeOp = .writing address data → ∀ a,
      (t.byteAt a = s.byteAt a ∨ (address ≤ a ∧ data[a - address]? = some (t.byteAt a))) ∧
      t.commitMap = s.commitMap) ∧
    (∀ sect block, s.storeOp = .erasing sect block → ∀ a,
      (t.byteAt a = s.byteAt a ∨ (a / 64 = block ∧ t.byteAt a = 0xFF)) ∧ t.commitMap = s.commitMap) ∧
    (∀ sect, s.storeOp = .committing sect → t.store = s.store ∧
      (t.commitMap = s.commitMap ∨ (c ≠ .operationTimeout ∧ t.commitMap = s.commitMap ||| (1#8 <<< sect)))) ∧
    (s.storeOp = .idle → t.store = s.store ∧ t.commitMap = s.commitMap) ∧ t.storeOp = .idle ∧
    (c ≠ .operationTimeout → t.lastResult = .ok ∧ t.storeTimeout = false ∧ ∀ q, (t.port q).pendingSet = 0)

/-! ## Controller ports -/

/-- R147, R152, R183: a selection fixes the frame that the transaction shifts out, the reply at the head or the NONE frame, with the flags that stand (log 8). -/
def Obligations.SelectionFixesTheFrame : Prop :=
  ∀ (s : State) (q : PortId), (s.port q).transaction = none →
    let port := s.port q
    let flags := byteOf (port.overrun.toNat + 2 * (decide (port.pendingSet ≠ 0)).toNat + 4 * (port.state == .stale).toNat)
    let opened := fun (bytes : List Byte) (isReply : Bool) =>
      s.modPort q fun port => { port with transaction := some ⟨bytes ++ [crc8 bytes], isReply, port.overrun, false⟩ }
    (port.replies = [] → exec (.selection q) s = .next (opened [0x00, flags, 0x00, 0x00] false)) ∧
    (∀ r more, port.replies = r :: more → exec (.selection q) s = .next (opened
      ([r.status.code, flags, r.echo] ++ (match r.status with | .refused x => [x.code] | _ => []) ++
        [byteOf r.payload.length] ++ r.payload) true))

/-- R148, R151, R152, R160: once a frame has been shifted out completely its reply leaves the queue, an overrun flag it carried is cleared, and a head request that waited on a full reply queue is taken (log 17). -/
def Obligations.ShiftedOutReplyLeaves : Prop :=
  ∀ (s : State) (q : PortId) (x : Transaction), s.settled → (s.port q).transaction = some x → x.complete = false →
    let replies := if x.isReply then (s.port q).replies.tail else (s.port q).replies
    let left := s.modPort q fun port => { port with
      transaction := some { x with complete := true }
      overrun := port.overrun && !x.carriesOverrun
      replies := replies
      attention := !replies.isEmpty || decide (port.pendingSet ≠ 0) }
    ((x.isReply = false ∨ (s.port q).replies.length < 4 ∨ (s.port q).requests = []) →
      exec (.replyFullyShiftedOut q) s = .next left) ∧
    (∀ f rest, x.isReply = true → (s.port q).replies.length = 4 → (s.port q).requests = f :: rest →
      exec (.replyFullyShiftedOut q) s = exec (f.row.command q) left)

/-- R147, R149, R150: what the bits clocked in before a deselection place in the request queue, each byte most significant bit first, while the part's data wire carries the bits of its frame and then 0. A frame of which all bits were clocked has been shifted out by then (R148, log 11); a bad frame keeps no operands (log 18), and the bits of a last byte whose eight clocks are not complete are dropped, which is the model's choice (log 20). -/
def Obligations.DeselectionReceivesTheFrame : Prop :=
  (∀ (s : State) (q : PortId) (x : Transaction) (clocked : List Bool), (s.port q).transaction = some x →
    x.complete = false → (wireBits x.frame).length ≤ clocked.length →
    leaves (exec (.replyFullyShiftedOut q) s) fun u =>
      exec (.deselection q clocked) s = exec (.deselection q clocked) u) ∧
  ∀ (s : State) (q : PortId) (x : Transaction) (bytes : List Byte) (part : List Bool), (s.port q).transaction = some x →
    part.length < 8 → (x.complete = true ∨ bytes.length < x.frame.length) →
    let clocked := wireBits bytes ++ part
    let ended := fun (port : Port) => ({ port with
      transaction := none
      lastSent := (wireBits x.frame ++ List.replicate clocked.length false).take clocked.length } : Port)
    ((bytes.length < 2 ∨ bytes.head? = some 0x00) → exec (.deselection q clocked) s = .next (s.modPort q ended)) ∧
    (∀ code len rest, bytes = code :: len :: rest → code ≠ 0x00 →
      let f : RequestFrame :=
        if 20 < len.toNat ∨ bytes.length ≠ len.toNat + 3 then ⟨code, [], some .length⟩
        else if bytes.getLast? ≠ some (crc8 bytes.dropLast) then ⟨code, [], some .check⟩
        else ⟨code, (bytes.drop 2).dropLast, none⟩
      exec (.deselection q clocked) s = .next (s.modPort q fun port =>
        if port.requests.length < 2 then { ended port with requests := port.requests ++ [f] }
        else { ended port with overrun := true }))

/-- R151: taking the head frame is one event that gives exactly one reply, echoing the command byte; while the reply queue holds four, the head frame waits. -/
def Obligations.EveryTurnGivesOneReply : Prop :=
  ∀ (s : State) (q : PortId) (f : RequestFrame) (rest : List RequestFrame),
    (AtTurn s q f rest → leaves (exec (f.row.command q) s) fun t =>
      (t.port q).requests = rest ∧
      ∃ r, (t.port q).replies = (s.port q).replies ++ [r] ∧ r.echo = f.code ∧ (t.port q).attention = true) ∧
    ((s.port q).requests = f :: rest → 4 ≤ (s.port q).replies.length → exec (f.row.command q) s = .next s)

/-- R163: a refused request changes nothing but its queues and raises no notice, and its payload is empty. -/
def Obligations.RefusedRequestChangesNothing : Prop :=
  ∀ (s t : State) (q : PortId) (f : RequestFrame) (rest : List RequestFrame) (r : Reply) (x : Reason),
    AtTurn s q f rest → exec (f.row.command q) s = .next t →
    (t.port q).replies = (s.port q).replies ++ [r] → r.status = .refused x →
    r.payload = [] ∧ t = s.answered q rest r

/-- R151: a bad frame is answered REFUSED with its reason, a command byte outside Table 9-3 with UNKNOWN, and every request other than JOIN and IDENT from a port in DETACHED or ABSENT with NOT_JOINED. -/
def Obligations.FramesThatReachNoBlock : Prop :=
  ∀ (s : State) (q : PortId) (f : RequestFrame) (rest : List RequestFrame), AtTurn s q f rest →
    (∀ x, f.bad = some x → exec (.badFrame q) s = .next (s.answered q rest ⟨.refused x, f.code, []⟩)) ∧
    (f.bad = none →
      f.code.toNat ∉ [0x01, 0x02, 0x03, 0x04, 0x05, 0x06, 0x10, 0x11, 0x12, 0x13, 0x14, 0x20, 0x30, 0x31, 0x32, 0x33,
        0x40, 0x41, 0x42, 0x43, 0x44, 0x45, 0x46, 0x50, 0x51, 0x52, 0x53, 0x54, 0x55] →
      exec (.unknown q) s = .next (s.answered q rest ⟨.refused .unknown, f.code, []⟩)) ∧
    ((s.port q).state = .detached ∨ (s.port q).state = .absent →
      f.row ∉ [.badFrame, .unknown, .join, .ident] →
      exec (f.row.command q) s = .next (s.answered q rest ⟨.refused .notJoined, f.code, []⟩))

/-- R154, R158, R165: JOIN of a free role. A port that was ABSENT has PORT_LOST reported absent, and the FAULTS notice (log 13) reaches the joining port too. -/
def Obligations.JoinClaimsTheRole : Prop :=
  ∀ (s : State) (q : PortId) (b : Byte) (role : Role) (rest : List RequestFrame),
    AtTurn s q (goodFrame 0x01 [b]) rest →
    ((b = 0 ∧ role = .call) ∨ (b = 1 ∧ role = .room) ∨ (b = 2 ∧ role = .view)) →
    ((s.port q).state = .detached ∨ (s.port q).state = .absent) →
    (role = .view ∨ ∀ k, k ≠ q → ¬ JoinedAs s k role) →
    leaves (exec (.join q) s) fun t =>
      let lost := (s.port q).state == .absent
      let faults := lost && (s.port q).portLost.latch && (s.port q).portLost.condition
      (∀ k, t.port k =
        if k = q then { s.port q with
          state := .attached, role := some role, lastPhase := 1, timer := some s.tuning.presence
          mask := 0b1111111#7, pendingSet := onlyIf faults .faults
          portLost := if lost then { (s.port q).portLost with condition := false } else (s.port q).portLost
          requests := rest
          replies := (s.port q).replies ++ [⟨.done, 0x01, [byteOf q.val, b]⟩]
          attention := true }
        else (s.port k).noticed (Category.ports.bit ||| onlyIf faults .faults)) ∧
      t = { s with ports := t.ports }

/-- R4, R24, R119, R161, R163, Tables 9-3, 9-4, 12-2 and 12-4: a joined port's request is answered with the first refusal that its form, its kind, sub-operation, choice or target code, its role and its index give, in this order: LENGTH for an operand count that fits none of its forms, RANGE for an unknown code, NOT_PERMITTED, RANGE for an index. A ROSTER sub-operation that names none is judged as log 9 says. JOIN of any port is refused LENGTH, RANGE, ALREADY_JOINED and ROLE_TAKEN, in this order (R154). -/
def Obligations.RequestsRefusedInOrder : Prop :=
  (∀ (s : State) (q : PortId) (f : RequestFrame) (rest : List RequestFrame) (role : Role) (x : Reason),
    AtTurn s q f rest → JoinedAs s q role → f.bad = none → f.row ≠ .unknown →
    firstRefusal role f.code.toNat f.operands = some x →
    exec (f.row.command q) s = .next (s.answered q rest ⟨.refused x, f.code, []⟩)) ∧
  ∀ (s : State) (q : PortId) (operands : List Byte) (rest : List RequestFrame),
    AtTurn s q (goodFrame 0x01 operands) rest →
    let refused := fun x => exec (.join q) s = .next (s.answered q rest ⟨.refused x, 0x01, []⟩)
    (operands.length ≠ 1 → refused .length) ∧
    (∀ b, operands = [b] →
      (2 < b.toNat → refused .range) ∧
      (b.toNat ≤ 2 → (s.port q).state = .attached ∨ (s.port q).state = .stale → refused .alreadyJoined) ∧
      (∀ k role, ((b = 0 ∧ role = Role.call) ∨ (b = 1 ∧ role = Role.room)) → k ≠ q → JoinedAs s k role →
        ((s.port q).state = .detached ∨ (s.port q).state = .absent) → refused .roleTaken))

/-- R39, R125, R126, R155: LEAVE gives the role up and drops its holds; for CALL every leg that is OPEN or HELD closes, at the last-close point. A LEAVE with operands is refused LENGTH. -/
def Obligations.LeaveDropsTheRole : Prop :=
  (∀ (s : State) (q : PortId) (role : Role) (operands : List Byte) (rest : List RequestFrame), operands ≠ [] →
    AtTurn s q (goodFrame 0x02 operands) rest → JoinedAs s q role →
    exec (.leave q) s = .next (s.answered q rest ⟨.refused .length, 0x02, []⟩)) ∧
  ∀ (s : State) (q : PortId) (role : Role) (rest : List RequestFrame),
    AtTurn s q (goodFrame 0x02 []) rest → JoinedAs s q role →
    leaves (exec (.leave q) s) fun t =>
      let dropped := fun (h : LegHolds) => h.removeRole (some role)
      let closes := fun m => decide (role = .call) && (s.leg m).active
      let last := decide (role = .call) && s.anyLegActive
      (∀ p, (t.pod p).holds =
        { (s.pod p).holds with
          room := (s.pod p).holds.room && decide (role ≠ .room)
          call := (s.pod p).holds.call && decide (role ≠ .call)
          pod := (s.pod p).holds.pod && !(last && s.tuning.flush.getLsbD 2) }) ∧
      (∀ m, t.leg m =
        if closes m then { s.leg m with
          state := .closed, receiveEnv := Ramp.flat 0, sendEnv := Ramp.flat 0, receiveFactor := Ramp.flat 0
          sendHolds := if s.tuning.flush.getLsbD 0 then LegHolds.empty else dropped (s.leg m).sendHolds
          receiveHolds := if s.tuning.flush.getLsbD 0 then LegHolds.empty else dropped (s.leg m).receiveHolds }
        else { s.leg m with
          sendHolds := dropped (s.leg m).sendHolds, receiveHolds := dropped (s.leg m).receiveHolds }) ∧
      t.privacy = (if last && s.tuning.flush.getLsbD 3 then none else s.privacy) ∧
      heldPods s t ∧
      (∀ k, t.port k =
        if k = q then { s.port q with
          state := .detached, role := none, lastPhase := 1, timer := none, mask := 0, pendingSet := 0
          requests := rest, replies := (s.port q).replies ++ [⟨.done, 0x02, []⟩], attention := true }
        else (s.port k).noticed (Category.ports.bit ||| onlyIf last .legs ||| holdNotices s t)) ∧
      t = { s with pods := t.pods, legs := t.legs, privacy := t.privacy, talkers := talkersLeft s t, ports := t.ports }

/-- R156: a PULSE whose phase differs from the last is accepted, and one that repeats it is refused REPEAT; the form is checked first. -/
def Obligations.PulseRefreshesPresence : Prop :=
  (∀ (s : State) (q : PortId) (role : Role) (operands : List Byte) (rest : List RequestFrame), operands.length ≠ 1 →
    AtTurn s q (goodFrame 0x03 operands) rest → JoinedAs s q role →
    exec (.pulse q) s = .next (s.answered q rest ⟨.refused .length, 0x03, []⟩)) ∧
  ∀ (s : State) (q : PortId) (role : Role) (phase : Byte) (rest : List RequestFrame),
    AtTurn s q (goodFrame 0x03 [phase]) rest → JoinedAs s q role →
    (phase.toNat ≤ 1 → phase.toNat ≠ (s.port q).lastPhase → leaves (exec (.pulse q) s) fun t =>
      (∀ k, t.port k =
        if k = q then ({ s.port q with
          state := .attached, lastPhase := phase.toNat, timer := some s.tuning.presence } : Port).answered rest
            ⟨.done, 0x03, [phase]⟩
        else (s.port k).noticed (onlyIf ((s.port q).state == .stale) .ports)) ∧
      t = { s with ports := t.ports }) ∧
    (phase.toNat ≤ 1 → phase.toNat = (s.port q).lastPhase →
      exec (.pulse q) s = .next (s.answered q rest ⟨.refused .repeated, 0x03, []⟩)) ∧
    (1 < phase.toNat → exec (.pulse q) s = .next (s.answered q rest ⟨.refused .range, 0x03, []⟩))

/-- R159: NOTICES returns the pending set and empties it; WATCH sets the mask, dropping bits that name no category, and the categories that leave it leave the pending set. Either with a wrong operand count is refused LENGTH. -/
def Obligations.NoticesAndWatch : Prop :=
  ∀ (s : State) (q : PortId) (role : Role) (rest : List RequestFrame), JoinedAs s q role →
    (AtTurn s q (goodFrame 0x04 []) rest →
      exec (.notices q) s = .next (s.modPort q fun port => ({ port with pendingSet := 0 } : Port).answered rest
        ⟨.done, 0x04, [port.pendingSet.setWidth 8]⟩)) ∧
    (∀ b : Byte, AtTurn s q (goodFrame 0x05 [b]) rest →
      let applied : CategorySet := b.extractLsb' 0 7
      exec (.watch q) s = .next (s.modPort q fun port =>
        ({ port with mask := applied, pendingSet := port.pendingSet &&& applied } : Port).answered rest
          ⟨if b.getLsbD 7 then .clamped else .done, 0x05, [applied.setWidth 8]⟩)) ∧
    (∀ operands, (operands ≠ [] → AtTurn s q (goodFrame 0x04 operands) rest →
        exec (.notices q) s = .next (s.answered q rest ⟨.refused .length, 0x04, []⟩)) ∧
      (operands.length ≠ 1 → AtTurn s q (goodFrame 0x05 operands) rest →
        exec (.watch q) s = .next (s.answered q rest ⟨.refused .length, 0x05, []⟩)))

/-- R39, R40, R125, R126, R157, R158, R165: the first expiry of a presence timer makes the port STALE; the second makes it ABSENT, keeps the role's holds, and for CALL closes the legs with the flush policies. -/
def Obligations.PresenceExpiries : Prop :=
  ∀ (s : State) (q : PortId), s.settled →
    ((s.port q).state = .attached → leaves (exec (.presenceTimerExpiry q) s) fun t =>
      (∀ k, t.port k =
        if k = q then { s.port q with state := .stale, lastPhase := 1, timer := some s.tuning.presence }
        else (s.port k).noticed Category.ports.bit) ∧
      t = { s with ports := t.ports }) ∧
    ((s.port q).state = .stale → leaves (exec (.presenceTimerExpiry q) s) fun t =>
      let call := (s.port q).role == some .call
      let last := call && s.anyLegActive
      (∀ p, (t.pod p).holds =
        { (s.pod p).holds with
          call := (s.pod p).holds.call && !(last && s.tuning.flush.getLsbD 1)
          pod := (s.pod p).holds.pod && !(last && s.tuning.flush.getLsbD 2) }) ∧
      (∀ m, t.leg m =
        if call && (s.leg m).active then { s.leg m with
          state := .closed, receiveEnv := Ramp.flat 0, sendEnv := Ramp.flat 0, receiveFactor := Ramp.flat 0
          sendHolds := if s.tuning.flush.getLsbD 0 then LegHolds.empty else (s.leg m).sendHolds
          receiveHolds := if s.tuning.flush.getLsbD 0 then LegHolds.empty else (s.leg m).receiveHolds }
        else s.leg m) ∧
      t.privacy = (if last && s.tuning.flush.getLsbD 3 then none else s.privacy) ∧
      heldPods s t ∧
      (∀ k, t.port k =
        if k = q then { s.port q with
          state := .absent, role := none, lastPhase := 1, timer := none, mask := 0, pendingSet := 0
          portLost := ⟨true, true⟩, attention := !(s.port q).replies.isEmpty }
        else (s.port k).noticed (Category.ports.bit ||| onlyIf (!(s.port q).portLost.latch) .faults |||
          onlyIf last .legs ||| holdNotices s t)) ∧
      t = { s with pods := t.pods, legs := t.legs, privacy := t.privacy, talkers := talkersLeft s t, ports := t.ports })

/-! ## Mute authority -/

/-- R24, R25, R27: HOLD_ON and HOLD_OFF on pods place and lift the requester's role on the listed pods named, with what R21 sets in motion. That HOLD_OFF leaves a POD entry in place is the model's choice between R27 and R124 (log 19). -/
def Obligations.PodHoldRequests : Prop :=
  ∀ (s : State) (q : PortId) (role : Role) (on : Bool) (set : List Byte) (rest : List RequestFrame),
    JoinedAs s q role → role ≠ .view → 1 ≤ set.length → set.length ≤ 4 →
    let code : Byte := if on then 0x10 else 0x11
    AtTurn s q (goodFrame code (0x00 :: set)) rest →
    ∃ applied, Keeps (number set) applied s.namesListed ∧
    leaves (exec (if on then .holdOnPods q else .holdOff q) s) fun t =>
      (∀ p, (t.pod p).holds =
        if applied.testBit (addressOf p) then { (s.pod p).holds with
          room := if role = .room then on else (s.pod p).holds.room
          call := if role = .call then on else (s.pod p).holds.call }
        else (s.pod p).holds) ∧
      heldPods s t ∧
      t = { s with
        pods := t.pods, talkers := talkersLeft s t
        ports := ((s.noticed (holdNotices s t)).answered q rest
          ⟨if applied = number set then .done else .clamped, code, 0x00 :: bigEndian 4 applied⟩).ports }

/-- R24, R26, R27: HOLD_ON and HOLD_OFF on a leg direction, kind 1 SEND and kind 2 RECEIVE, change that set of the named legs alone. -/
def Obligations.LegHoldRequests : Prop :=
  ∀ (s : State) (q : PortId) (role : Role) (on send : Bool) (set : List Byte) (rest : List RequestFrame),
    JoinedAs s q role → role ≠ .view → 1 ≤ set.length → set.length ≤ 4 →
    let code : Byte := if on then 0x10 else 0x11
    let kind : Byte := if send then 0x01 else 0x02
    AtTurn s q (goodFrame code (kind :: set)) rest →
    leaves (exec (if on then .holdOnLegs q else .holdOff q) s) fun t =>
      let applied := number set % 16
      let change := fun (h : LegHolds) => ({
        room := if role = .room then on else h.room
        call := if role = .call then on else h.call } : LegHolds)
      (∀ m, t.leg m =
        if applied.testBit m.val then
          (if send then { s.leg m with sendHolds := change (s.leg m).sendHolds }
           else { s.leg m with receiveHolds := change (s.leg m).receiveHolds })
        else s.leg m) ∧
      t = { s with
        legs := t.legs
        ports := ((s.noticed (holdNotices s t)).answered q rest
          ⟨if applied = number set then .done else .clamped, code, kind :: bigEndian 4 applied⟩).ports }

/-- R24, R28: RELEASE_ALL from ROOM removes POD, ROOM and CALL from the listed pods named and leaves LINK, privacy and leg holds. -/
def Obligations.ReleaseAllClearsPodHolds : Prop :=
  ∀ (s : State) (q : PortId) (set : List Byte) (rest : List RequestFrame),
    JoinedAs s q .room → 1 ≤ set.length → set.length ≤ 4 → AtTurn s q (goodFrame 0x12 set) rest →
    ∃ applied, Keeps (number set) applied s.namesListed ∧
    leaves (exec (.releaseAll q) s) fun t =>
      (∀ p, (t.pod p).holds =
        if applied.testBit (addressOf p) then ⟨false, false, false, (s.pod p).holds.link⟩ else (s.pod p).holds) ∧
      heldPods s t ∧
      t = { s with
        pods := t.pods, talkers := talkersLeft s t
        ports := ((s.noticed (holdNotices s t)).answered q rest
          ⟨if applied = number set then .done else .clamped, 0x12, bigEndian 4 applied⟩).ports }

/-- R29, R30: PRIVACY_ON records the requester's role as SETTER, whoever set privacy before, and PRIVACY_OFF ends privacy whoever set it; hold sets stay. -/
def Obligations.PrivacyRequests : Prop :=
  ∀ (s : State) (q : PortId) (role : Role) (on : Bool) (rest : List RequestFrame),
    JoinedAs s q role → role ≠ .view → AtTurn s q (goodFrame (if on then 0x13 else 0x14) []) rest →
    leaves (exec (if on then .privacyOn q else .privacyOff q) s) fun t =>
      t.privacy = (if on then some (if role = .call then .call else .room) else none) ∧
      (∀ p, (t.pod p).holds = (s.pod p).holds) ∧
      heldPods s t ∧
      t = { s with
        pods := t.pods, talkers := talkersLeft s t, privacy := t.privacy
        ports := ((s.noticed (holdNotices s t)).answered q rest
          ⟨.done, if on then 0x13 else 0x14,
            if on then [if role = .call then 0x01 else 0x11, 0x00] else [0x00, 0x00]⟩).ports }

/-- R33, R34, R36, Table 2-3: a short press that PL holds for a pod is judged. It acts on that pod's hold set alone; an ignored press changes nothing but the count of presses to deliver. -/
def Obligations.ShortPressJudged : Prop :=
  ∀ (s : State) (p : PodId), s.settled → 0 < (s.pod p).shortDue →
    leaves (exec (.shortPress (addressOf p)) s) fun t =>
      let h := (s.pod p).holds
      let after : HoldSet :=
        if s.privacy.isSome then h
        else if !(h.pod || h.room || h.call || h.link) then { h with pod := true }
        else if s.tuning.podOverride = 1 then { h with pod := false, room := false, call := false }
        else { h with pod := false }
      (∀ k, (t.pod k).holds = if k = p then after else (s.pod k).holds) ∧
      (∀ k, t.pod k = ({ s.pod k with
        holds := (t.pod k).holds, mutedTalk := flagLeft s t k
        shortDue := (s.pod k).shortDue - (if k = p then 1 else 0) } : Pod).following t k) ∧
      t = { s with pods := t.pods, talkers := talkersLeft s t, ports := (s.noticed (holdNotices s t)).ports }

/-- R35, R36, Table 2-4: a long press that PL holds for a pod is judged once the pod's short presses have been delivered (R142). It acts on the privacy record alone. -/
def Obligations.LongPressJudged : Prop :=
  ∀ (s : State) (p : PodId), s.settled → (s.pod p).shortDue = 0 → 0 < (s.pod p).longDue →
    leaves (exec (.longPress (addressOf p)) s) fun t =>
      t.privacy = (if (s.pod p).chair then
          (match s.privacy with
           | none => some (.chair p)
           | some (.chair _) => none
           | some x => some x)
        else s.privacy) ∧
      (∀ k, t.pod k = ({ s.pod k with
        mutedTalk := flagLeft s t k
        longDue := (s.pod k).longDue - (if k = p then 1 else 0) } : Pod).following t k) ∧
      t = { s with
        pods := t.pods, talkers := talkersLeft s t, privacy := t.privacy
        ports := (s.noticed (holdNotices s t)).ports }

/-! ## Legs -/

/-- R119 to R124, Table 7-3: LEG_STATE from CALL. A close zeroes the leg's envelopes and applies the flush policies, at the last-close point those of the room, and a first open mutes the listed pods under its flag. -/
def Obligations.LegStateChanges : Prop :=
  ∀ (s : State) (q : PortId) (m : LegId) (code : Byte) (target : LegState) (rest : List RequestFrame),
    JoinedAs s q .call → AtTurn s q (goodFrame 0x20 [byteOf m.val, code]) rest →
    ((code = 0 ∧ target = .closed) ∨ (code = 1 ∧ target = .opened) ∨ (code = 2 ∧ target = .held)) →
    let reply : Reply := ⟨.done, 0x20, [byteOf m.val, code]⟩
    let others := allLegs.any fun k => k != m && (s.leg k).state != .closed
    ((s.leg m).state = target → exec (.legState q) s = .next (s.answered q rest reply)) ∧
    ((s.leg m).state = .closed → target = .held →
      exec (.legState q) s = .next (s.answered q rest ⟨.refused .state, 0x20, []⟩)) ∧
    ((s.leg m).state ≠ target → ¬ ((s.leg m).state = .closed ∧ target = .held) →
      leaves (exec (.legState q) s) fun t =>
        let last := decide (target = .closed) && !others
        let first := decide ((s.leg m).state = .closed) && decide (target = .opened) && !others
        let drop := s.tuning.flush.getLsbD 0
        (∀ k, t.leg k =
          if k ≠ m then s.leg k
          else if target = .closed then { s.leg m with
            state := .closed, receiveEnv := Ramp.flat 0, sendEnv := Ramp.flat 0, receiveFactor := Ramp.flat 0
            sendHolds := if drop then LegHolds.empty else (s.leg m).sendHolds
            receiveHolds := if drop then LegHolds.empty else (s.leg m).receiveHolds }
          else { s.leg m with state := target }) ∧
        (∀ p, (t.pod p).holds =
          { (s.pod p).holds with
            call := (s.pod p).holds.call && !(last && s.tuning.flush.getLsbD 1)
            pod := ((s.pod p).holds.pod && !(last && s.tuning.flush.getLsbD 2)) ||
              (first && s.tuning.flush.getLsbD 4 && (s.pod p).listed) }) ∧
        t.privacy = (if last && s.tuning.flush.getLsbD 3 then none else s.privacy) ∧
        heldPods s t ∧
        t = { s with
          pods := t.pods, legs := t.legs, privacy := t.privacy, talkers := talkersLeft s t
          ports := ((s.noticed (Category.legs.bit ||| holdNotices s t)).answered q rest reply).ports })

/-! ## Room tables -/

/-- R5, R12: GAIN sets the addressed item to the value, clamped to its bound; nothing else changes and no notice is raised. A lowered trim takes the present contribution gain with it, so that law 13 holds after the event (R1); the slide of the next frame still begins where the last one ended (log 12). -/
def Obligations.GainSetsOneItem : Prop :=
  ∀ (s : State) (q : PortId) (role : Role) (index : Byte) (value : List Byte) (rest : List RequestFrame),
    value.length = 3 → JoinedAs s q role →
    let v := number value
    let reply := fun (kind : Byte) (bound : Nat) => (⟨if v ≤ bound then .done else .clamped, 0x30,
      [kind, index] ++ bigEndian 3 (min bound v)⟩ : Reply)
    (∀ p, index.toNat = addressOf p → role = .room →
      (AtTurn s q (goodFrame 0x30 ([0x00, index] ++ value)) rest → exec (.gainTrim q) s =
        .next ((s.modPod p fun pod => { pod with
          trim := min 131072 v, contrib := ⟨pod.contrib.prev, min pod.contrib.now (min 131072 v)⟩ }).answered q rest
            (reply 0x00 131072))) ∧
      (AtTurn s q (goodFrame 0x30 ([0x01, index] ++ value)) rest → exec (.gainVolume q) s =
        .next ((s.modPod p fun pod => { pod with volume := min 65536 v }).answered q rest (reply 0x01 65536)))) ∧
    (∀ m : LegId, index.toNat = m.val → role ≠ .view → AtTurn s q (goodFrame 0x30 ([0x02, index] ++ value)) rest →
      exec (.gainLegGain q) s =
        .next ((s.modLeg m fun leg => { leg with gain := min 131072 v }).answered q rest (reply 0x02 131072)))

/-- R3, R83, R108, R109, R133, R149, Tables 1-2, 4-5, 6-1, 11-1, 12-1, 12-2 and 12-10: each parameter's id, range, default and place in the store, the NOM factor targets, the sections of the store, the worked figures of the two checks, the codes of every field of Table 12-2, for the codes of requests the value that each names and the row that takes it, the category bits, and the slot of each input sample with its first 24 bits as a signed value. -/
def Obligations.FixedTablesOfTheManual : Prop :=
  ([(1, Param.openLimit, (1, 8), 4, (4, 448, 3)), (2, .marginShift, (1, 3), 2, (4, 451, 3)),
    (3, .absThreshold, (0, 1048576), 2048, (4, 454, 3)), (4, .gateHold, (0, 2000), 400, (4, 457, 3)),
    (5, .attack, (1, 16), 2, (4, 460, 3)), (6, .release, (1, 500), 100, (4, 463, 3)),
    (7, .offGain, (0, 65536), 0, (4, 466, 3)), (8, .lastOn, (0, 1), 1, (4, 469, 3)),
    (9, .muteRamp, (1, 64), 8, (4, 472, 3)), (10, .reinforce, (0, 65536), 0, (4, 475, 3)),
    (11, .presence, (0, 2), 1, (5, 512, 1)), (12, .missLimit, (2, 8), 3, (5, 513, 1)),
    (13, .podOverride, (0, 1), 0, (5, 514, 1)), (14, .flush, (0, 31), 3, (6, 576, 1)),
    (15, .startPrivate, (0, 1), 0, (5, 515, 1))] : List (Nat × Param × (Nat × Nat) × Nat × (Nat × Nat × Nat))).all
    (fun (id, x, range, default, place) => paramOfId id = some x ∧ x.range = range ∧
      Tuning.defaults.get x = default ∧ x.place = place) = true ∧
  (paramOfId 0 = none ∧ ∀ n, paramOfId (n + 16) = none) ∧
  (List.range 9).map nomTarget = [65536, 65536, 46341, 37837, 32768, 29309, 26755, 24770, 23170] ∧
  (∀ a < 1024, sectionOf a = if a < 64 then 0 else if a < 128 then 1 else if a < 256 then 2 else if a < 448 then 3
    else if a < 512 then 4 else if a < 576 then 5 else if a < 640 then 6 else 7) ∧
  (List.range 8).map (fun x => (firstBlock x, lastBlock x)) =
    [(0, 0), (1, 1), (2, 3), (4, 6), (7, 7), (8, 8), (9, 9), (10, 15)] ∧
  crc8 [0x03, 0x01, 0x00] = 0x3E ∧ crc8 [0x03, 0x01, 0x01] = 0x0F ∧
  crc16 [0x31, 0x32, 0x33, 0x34, 0x35, 0x36, 0x37, 0x38, 0x39] = 0x29B1 ∧
  ([Status.done, .clamped, .started].map Status.code = [0x01, 0x02, 0x03] ∧ (∀ x, (Status.refused x).code = 0x04) ∧
    ∀ flags, (noneFrame flags).head? = some 0x00) ∧
  [Reason.notJoined, .alreadyJoined, .roleTaken, .notPermitted, .range, .length, .check, .unknown, .repeated, .state,
    .storeBusy, .protected_, .notInstaller, .legsActive].map Reason.code =
    [0x01, 0x02, 0x03, 0x04, 0x05, 0x06, 0x07, 0x08, 0x09, 0x0A, 0x0B, 0x0C, 0x0D, 0x0E] ∧
  [some Role.call, some .room, some .view, none].map roleCode = [0, 1, 2, 3] ∧
  [PortState.detached, .attached, .stale, .absent].map PortState.code = [0, 1, 2, 3] ∧
  [PodState.unlisted, .seeking, .online, .doubtful, .lost].map PodState.code = [0, 1, 2, 3, 4] ∧
  [GateState.closed, .opened, .hold, .last].map GateState.code = [0, 1, 2, 3] ∧
  [LegState.closed, .opened, .held].map LegState.code = [0, 1, 2] ∧
  [Pattern.dark, .live, .talking, .mutedSelf, .mutedHeld, .mutedSpeaking, .privateRoom].map Pattern.code =
    [0, 1, 2, 3, 4, 5, 6] ∧
  [SyncState.starting, .running, .missing].map SyncState.code = [0, 1, 2] ∧
  ([Setter.call, .room, .start].map Setter.code = [0, 1, 2] ∧ ∀ p, (Setter.chair p).code = 3) ∧
  (StoreOp.idle.code = 0 ∧ (∀ a data, (StoreOp.writing a data).code = 1) ∧ (∀ x, (StoreOp.committing x).code = 2) ∧
    ∀ x block, (StoreOp.erasing x block).code = 3) ∧
  [StoreResult.ok, .failed].map StoreResult.code = [0, 1] ∧
  (∀ n, holdTargetOfCode n = [HoldTarget.pods, .send, .receive][n]? ∧
    rosterOpOfCode n = [RosterOp.list, .unlist, .chair, .cls][n]? ∧ chairChoiceOfCode n = [false, true][n]? ∧
    gainKindOfCode n = [GainKind.trim, .volume, .legGain][n]? ∧ roleOfCode n = [Role.call, .room, .view][n]? ∧
    legStateOfCode n = [LegState.closed, .opened, .held][n]?) ∧
  (∀ more, [0, 1, 2].map (fun kind => (goodFrame 0x10 (kind :: more)).row) = [.holdOnPods, .holdOnLegs, .holdOnLegs] ∧
    [0, 1, 2].map (fun kind => (goodFrame 0x30 (kind :: more)).row) = [.gainTrim, .gainVolume, .gainLegGain] ∧
    [0, 1, 2, 3].map (fun op => (goodFrame 0x32 (op :: more)).row) =
      [.rosterList, .rosterUnlist, .rosterChair, .rosterClass]) ∧
  [Category.holds, .talkers, .pods, .legs, .ports, .faults, .store].map Category.bit = [1, 2, 4, 8, 16, 32, 64] ∧
  (∀ (l : LaneInput) (p : PodId), inSampleRange (podSample l p) ∧
    podSample l p % 16777216 = ((l.podIn[p.val / 8]'(by omega))[p.val % 8]'(by omega)).toNat / 256) ∧
  (∀ (l : LaneInput) (m : LegId), inSampleRange (legSample l m) ∧
    legSample l m % 16777216 = (l.legIn[m.val]'(by omega)).toNat / 256)

/-- R5, R13, R15: the set form of TUNE gives the parameter the clamped value; a lowered OPEN_LIMIT cuts the talker list and a cleared LAST_ON removes a LAST entry, which TALKERS reports. -/
def Obligations.TuneSetsOneParameter : Prop :=
  ∀ (s : State) (q : PortId) (id : Byte) (x : Param) (value : List Byte) (rest : List RequestFrame),
    s.talkersSound → value.length = 3 → JoinedAs s q .room → paramOfId id.toNat = some x →
    AtTurn s q (goodFrame 0x31 (id :: value)) rest →
    leaves (exec (.tuneSet q) s) fun t =>
      let v := number value
      let applied := if x = .flush then v % 32 else min x.range.2 (max x.range.1 v)
      (∀ y, t.tuning.get y = if y = x then applied else s.tuning.get y) ∧
      (x ≠ .openLimit → x ≠ .lastOn → t.talkers = s.talkers) ∧
      (x = .lastOn → t.talkers = if applied = 0 then s.talkers.filter (fun e => e.state ≠ .last) else s.talkers) ∧
      (x = .openLimit → t.talkers.Sublist s.talkers ∧ t.talkers.length = min applied s.talkers.length ∧
        ∀ gone ∈ s.talkers, ∀ kept ∈ t.talkers, gone ∉ t.talkers → cutBefore s.talkers gone kept) ∧
      (∀ p, t.pod p = (s.pod p).following t p) ∧
      t = { s with
        pods := t.pods, tuning := t.tuning, talkers := t.talkers
        ports := ((s.noticed (onlyIf (decide (t.talkers ≠ s.talkers)) .talkers)).answered q rest
          ⟨if applied = v then .done else .clamped, 0x31, id :: bigEndian 3 applied⟩).ports }

/-- R6, R131: ROSTER LIST lists the named pods that are not listed, in SEEKING and held by LINK, and leaves the others as they are; a pod listed while polling is stopped begins a slot. -/
def Obligations.RosterListAddsPods : Prop :=
  ∀ (s : State) (q : PortId) (set : List Byte) (rest : List RequestFrame),
    JoinedAs s q .room → 1 ≤ set.length → set.length ≤ 4 → AtTurn s q (goodFrame 0x32 (0x00 :: set)) rest →
    ∃ applied, Keeps (number set) applied namesPod ∧
    leaves (exec (.rosterList q) s) fun t =>
      let newly := fun p => applied.testBit (addressOf p) && !(s.pod p).listed
      let anyNew := allPods.any newly
      (∀ p, t.pod p = if newly p then ({ s.pod p with
          listed := true, chair := false, holds := HoldSet.linkOnly, mutedTalk := false, level := 0, floor := 0
          link := .seeking, misses := 0, baselines := none, shortDue := 0, longDue := 0, localFault := false } :
            Pod).following t p
        else s.pod p) ∧
      (∀ p, s.slot = none → (∀ k, (s.pod k).listed = false) → newly p = true → (∀ k, newly k = true → p ≤ k) →
        t.lastPolled = addressOf p ∧ t.slot = some ⟨p, pollLevels p (t.pod p).pattern, false, false⟩) ∧
      ((s.slot ≠ none ∨ (∃ k, (s.pod k).listed = true) ∨ anyNew = false) →
        t.lastPolled = s.lastPolled ∧ t.slot = s.slot) ∧
      t = { s with
        pods := t.pods, lastPolled := t.lastPolled, slot := t.slot
        ports := ((s.noticed (onlyIf anyNew .pods ||| onlyIf anyNew .holds)).answered q rest
          ⟨if applied = number set then .done else .clamped, 0x32, 0x00 :: bigEndian 4 applied⟩).ports }

/-- R7: ROSTER UNLIST clears each named listed pod at every block, keeps its class, exclusion set, gains, counters and latches, and leaves the others as they are. FAULTS is raised for latched conditions that end (log 13), and the last-polled address becomes 0 with the last pod (log 10). -/
def Obligations.RosterUnlistClearsPods : Prop :=
  ∀ (s : State) (q : PortId) (set : List Byte) (rest : List RequestFrame),
    JoinedAs s q .room → 1 ≤ set.length → set.length ≤ 4 → AtTurn s q (goodFrame 0x32 (0x01 :: set)) rest →
    ∃ applied, Keeps (number set) applied namesPod ∧
    leaves (exec (.rosterUnlist q) s) fun t =>
      let gone := fun p => applied.testBit (addressOf p) && (s.pod p).listed
      let ended := fun (r : FaultRecord) => r.latch && r.condition
      let faults := allPods.any fun p => gone p &&
        (ended (s.pod p).podLost || ended (s.pod p).podClip || ended (s.pod p).podLocal)
      (∀ p, t.pod p = if gone p then ({ s.pod p with
          listed := false, chair := false, holds := HoldSet.empty, mutedTalk := false, level := 0, floor := 0
          muteEnv := Ramp.flat 0, gateEnv := Ramp.flat 0, contrib := Ramp.flat 0, contribEnd := 0
          link := .unlisted, misses := 0, baselines := none, shortDue := 0, longDue := 0, localFault := false
          podLost := { (s.pod p).podLost with condition := false }
          podClip := { (s.pod p).podClip with condition := false }
          podLocal := { (s.pod p).podLocal with condition := false } } : Pod).following t p
        else s.pod p) ∧
      t.talkers = s.talkers.filter (fun e => !gone e.pod) ∧
      t.slot = s.slot.map (fun x => if gone x.pod && !x.judged then { x with discard := true } else x) ∧
      t.lastPolled = (if allPods.any gone && !(allPods.any fun p => (t.pod p).listed) then 0 else s.lastPolled) ∧
      t = { s with
        pods := t.pods, talkers := t.talkers, slot := t.slot, lastPolled := t.lastPolled
        ports := ((s.noticed (onlyIf (allPods.any gone) .pods |||
          onlyIf (allPods.any fun p => gone p && decide ((s.pod p).holds ≠ HoldSet.empty)) .holds |||
          onlyIf (talkersMoved s t) .talkers ||| onlyIf faults .faults)).answered q rest
            ⟨if applied = number set then .done else .clamped, 0x32, 0x01 :: bigEndian 4 applied⟩).ports }

/-- R9, R10: CHAIR puts the listed named pods into the chair set or takes them out; CLASS sets one pod's class and that of its talker entry. PODS is raised by a change. -/
def Obligations.RosterChairAndClass : Prop :=
  ∀ (s : State) (q : PortId) (rest : List RequestFrame), JoinedAs s q .room →
    (∀ (on : Bool) (set : List Byte), 1 ≤ set.length → set.length ≤ 4 →
      let choice : Byte := if on then 1 else 0
      AtTurn s q (goodFrame 0x32 (0x02 :: choice :: set)) rest →
      ∃ applied, Keeps (number set) applied s.namesListed ∧
      let set1 := s.mapPods fun p pod => if applied.testBit (addressOf p) then { pod with chair := on } else pod
      exec (.rosterChair q) s = .next ((set1.noticed (onlyIf (decide (set1 ≠ s)) .pods)).answered q rest
        ⟨if applied = number set then .done else .clamped, 0x32, 0x02 :: choice :: bigEndian 4 applied⟩)) ∧
    (∀ (p : PodId) (a v : Byte), a.toNat = addressOf p → AtTurn s q (goodFrame 0x32 [0x03, a, v]) rest →
      let c := min 3 v.toNat
      let set1 := { s.modPod p fun pod => { pod with cls := c } with
        talkers := s.talkers.map fun e : Talker => if e.pod = p then { e with cls := c } else e }
      exec (.rosterClass q) s = .next ((set1.noticed (onlyIf ((s.pod p).cls != c) .pods)).answered q rest
        ⟨if v.toNat ≤ 3 then .done else .clamped, 0x32, [0x03, a, byteOf c]⟩))

/-- R11: EXCLUDE replaces one pod's exclusion set by the named pods and the pod itself, and raises no notice. -/
def Obligations.ExcludeReplacesTheSet : Prop :=
  ∀ (s : State) (q : PortId) (p : PodId) (a : Byte) (set : List Byte) (rest : List RequestFrame),
    JoinedAs s q .room → a.toNat = addressOf p → 1 ≤ set.length → set.length ≤ 4 →
    AtTurn s q (goodFrame 0x33 (a :: set)) rest →
    ∃ (x : PodSet) (applied : Nat),
      (∀ i, PodSet.has x i = (decide (i = p) || (number set).testBit (addressOf i))) ∧
      (∀ i, applied.testBit i = (decide (i = addressOf p) || ((number set).testBit i && namesPod i))) ∧
      exec (.exclude q) s = .next ((s.modPod p fun pod => { pod with excl := x }).answered q rest
        ⟨if applied = number set then .done else .clamped, 0x33, a :: bigEndian 4 applied⟩)

/-! ## Reads -/

/-- R13, R161, R162, Tables 12-7 and 12-8: the payloads of IDENT, from every port state, READ_ROOM, READ_PORTS and the query form of TUNE; none of them changes the state beyond the turn. IDENT gives the present value of PRESENCE (log 6); with operands it is refused LENGTH. -/
def Obligations.IdentRoomPortAndTuneReads : Prop :=
  ∀ (s : State) (q : PortId) (rest : List RequestFrame),
    (AtTurn s q (goodFrame 0x06 []) rest →
      exec (.ident q) s = .next (s.answered q rest ⟨.done, 0x06,
        [0x09, 0x64, 0x01, byteOf q.val, (s.port q).state.code, roleCode (s.port q).role, byteOf s.tuning.presence]⟩)) ∧
    (∀ operands, operands ≠ [] → AtTurn s q (goodFrame 0x06 operands) rest →
      exec (.ident q) s = .next (s.answered q rest ⟨.refused .length, 0x06, []⟩)) ∧
    (∀ role, JoinedAs s q role →
      (AtTurn s q (goodFrame 0x46 []) rest → ∃ b0 b1, exec (.readRoom q) s = .next (s.answered q rest ⟨.done, 0x46,
          [b0, b1, byteOf s.talkers.length] ++ bigEndian 3 (nomTarget s.talkers.length) ++
            [s.sync.code, byteOf s.installer.toNat]⟩) ∧
        (match s.privacy with
         | none => b0 = 0 ∧ b1 = 0
         | some .call => b0 = 0x01 ∧ b1 = 0
         | some .room => b0 = 0x11 ∧ b1 = 0
         | some .start => b0 = 0x21 ∧ b1 = 0
         | some (.chair p) => b0 = 0x31 ∧ b1.toNat = addressOf p)) ∧
      (AtTurn s q (goodFrame 0x43 []) rest → exec (.readPorts q) s = .next (s.answered q rest ⟨.done, 0x43,
        [(s.port 0).state.code, roleCode (s.port 0).role, (s.port 0).mask.setWidth 8,
         (s.port 1).state.code, roleCode (s.port 1).role, (s.port 1).mask.setWidth 8,
         (s.port 2).state.code, roleCode (s.port 2).role, (s.port 2).mask.setWidth 8]⟩)) ∧
      (∀ (id : Byte) (x : Param), paramOfId id.toNat = some x → AtTurn s q (goodFrame 0x31 [id]) rest →
        exec (.tuneQuery q) s = .next (s.answered q rest ⟨.done, 0x31, id :: bigEndian 3 (s.tuning.get x)⟩)))

/-- R85, R117, R161, Tables 12-6 and 12-7: READ_LEGS and READ_TALKERS carry what the state holds, field by field. -/
def Obligations.LegAndTalkerReads : Prop :=
  ∀ (s : State) (q : PortId) (role : Role) (rest : List RequestFrame), s.sound → JoinedAs s q role →
    (AtTurn s q (goodFrame 0x42 []) rest → ∃ bytes,
      exec (.readLegs q) s = .next (s.answered q rest ⟨.done, 0x42, bytes⟩) ∧ bytes.length = 40 ∧
      ∀ m : LegId, let leg := s.leg m
        let own := fun i n => number ((bytes.drop (10 * m.val + i)).take n)
        own 0 1 = leg.state.code + 4 * leg.sendHolds.room.toNat + 8 * leg.sendHolds.call.toNat +
          16 * leg.receiveHolds.room.toNat + 32 * leg.receiveHolds.call.toNat ∧
        own 1 3 = leg.gain ∧ own 4 3 = leg.receiveEnv.now ∧ own 7 3 = leg.sendEnv.now) ∧
    (AtTurn s q (goodFrame 0x41 []) rest → ∃ bytes,
      exec (.readTalkers q) s = .next (s.answered q rest ⟨.done, 0x41, bytes⟩) ∧ bytes.length = 5 * s.talkers.length ∧
      ∀ i (e : Talker), s.talkers[i]? = some e →
        let own := fun j n => number ((bytes.drop (5 * i + j)).take n)
        let (code, remaining) := match e.state with | .opened => (1, 0) | .hold r => (2, r) | .last => (3, 0)
        own 0 1 % 32 = addressOf e.pod ∧ own 0 1 / 32 = code ∧
        own 1 1 / 64 = e.cls ∧ own 1 2 % 2 ^ 14 = remaining ∧ own 3 2 = e.admission.toNat % 65536)

/-- R85, R146, R161, R168, Tables 12-5 and 12-8: the record READ_CHANNEL gives of a listed pod, 32 bytes, and of an unlisted one, 23 bytes; and READ_FAULTS, with the latch and the condition of every record. -/
def Obligations.ChannelAndFaultReads : Prop :=
  ∀ (s : State) (q : PortId) (role : Role) (p : PodId) (a : Byte) (rest : List RequestFrame),
    s.sound → JoinedAs s q role →
    (a.toNat = addressOf p → AtTurn s q (goodFrame 0x40 [a]) rest → ∃ bytes, exec (.readChannel q) s = .next (s.answered q rest ⟨.done, 0x40, bytes⟩) ∧
      let pod := s.pod p
      let own := fun i n => number ((bytes.drop i).take n)
      bytes.length = (if pod.listed then 32 else 23) ∧
      own 0 1 = addressOf p ∧
      Carries (bytes.getD 1 0) [pod.listed, pod.chair, s.muted p, pod.listed && pod.mutedTalk] ∧
      bytes.getD 2 0 = pod.link.code ∧
      Carries (bytes.getD 3 0) [pod.holds.pod, pod.holds.room, pod.holds.call, pod.holds.link] ∧
      own 4 1 = (if pod.listed then pod.gate.code else 0) ∧
      own 5 1 = (if s.talks p then s.talkers.findIdx (fun e => e.pod == p) + 1 else 0) ∧
      bytes.getD 6 0 = pod.pattern.code ∧ own 7 1 = pod.cls ∧
      Carries (bytes.getD 8 0) [pod.podLost.latch, pod.podClip.latch, pod.podLocal.latch, pod.podErrors.latch,
        pod.podLost.condition, pod.podClip.condition, pod.podLocal.condition, pod.podErrors.condition] ∧
      own 9 1 = pod.timeouts ∧ own 10 1 = pod.checkFailures ∧ own 11 1 = pod.framingErrors ∧ own 12 1 = pod.misses ∧
      own 13 3 = pod.trim ∧ own 16 3 = pod.volume ∧ own 19 4 = 2 * pod.excl.toNat ∧
      (pod.listed = true → own 23 3 = pod.muteEnv.now ∧ own 26 3 = pod.level ∧ own 29 3 = pod.floor)) ∧
    (AtTurn s q (goodFrame 0x44 []) rest → ∃ bytes,
      exec (.readFaults q) s = .next (s.answered q rest ⟨.done, 0x44, bytes⟩) ∧ bytes.length = 26 ∧
      (∀ p : PodId, Carries (bytes.getD p.val 0)
        [(s.pod p).podLost.latch, (s.pod p).podClip.latch, (s.pod p).podLocal.latch, (s.pod p).podErrors.latch,
         (s.pod p).podLost.condition, (s.pod p).podClip.condition, (s.pod p).podLocal.condition,
         (s.pod p).podErrors.condition]) ∧
      Carries (bytes.getD 24 0)
        [(s.port 0).portLost.latch, (s.port 1).portLost.latch, (s.port 2).portLost.latch, false,
         (s.port 0).portLost.condition, (s.port 1).portLost.condition, (s.port 2).portLost.condition] ∧
      Carries (bytes.getD 25 0) [s.audioClock.latch, s.storeTimeout, false, false, s.audioClock.condition])

/-! ## Faults -/

/-- R169, R170: CLEAR_FAULTS zeroes the counters of the pods it names with POD_ERRORS, then clears each named latch whose condition is absent, and reports how many it cleared and how many it left. -/
def Obligations.ClearFaultsClearsEndedFaults : Prop :=
  ∀ (s : State) (q : PortId) (role : Role) (scopeSet : List Byte) (kindSet : Byte) (rest : List RequestFrame),
    JoinedAs s q role → role ≠ .view → scopeSet.length = 4 →
    AtTurn s q (goodFrame 0x45 (scopeSet ++ [kindSet])) rest →
    ∃ scopes, Keeps (number scopeSet) scopes (fun i => decide (1 ≤ i ∧ i ≤ 28)) ∧
    leaves (exec (.clearFaults q) s) fun t =>
      let kinds := kindSet.toNat % 128
      let sel := fun (scope kind : Nat) => scopes.testBit scope && kinds.testBit kind
      let clear := fun (r : FaultRecord) (b : Bool) => ({ r with latch := r.latch && !(b && !r.condition) } : FaultRecord)
      let cleared := latchesCleared s t
      let left := latchesNamed t scopes kinds
      (∀ p, t.pod p = { s.pod p with
        timeouts := if sel (addressOf p) 3 then 0 else (s.pod p).timeouts
        checkFailures := if sel (addressOf p) 3 then 0 else (s.pod p).checkFailures
        framingErrors := if sel (addressOf p) 3 then 0 else (s.pod p).framingErrors
        podLost := clear (s.pod p).podLost (sel (addressOf p) 0)
        podClip := clear (s.pod p).podClip (sel (addressOf p) 1)
        podLocal := clear (s.pod p).podLocal (sel (addressOf p) 2)
        podErrors := if sel (addressOf p) 3 then ⟨false, false⟩ else (s.pod p).podErrors }) ∧
      (∀ k, (t.port k).portLost = clear (s.port k).portLost (sel (25 + k.val) 4)) ∧
      t.audioClock = clear s.audioClock (sel 28 5) ∧
      t.storeTimeout = (s.storeTimeout && !sel 28 6) ∧
      t = { s with
        pods := t.pods, audioClock := t.audioClock, storeTimeout := t.storeTimeout
        ports := (((s.noticed (onlyIf (decide (0 < cleared + left)) .faults)).answered q rest
          ⟨if scopes = number scopeSet ∧ kindSet.toNat < 128 then .done else .clamped, 0x45,
            bigEndian 4 scopes ++ [byteOf kinds, byteOf cleared, byteOf left]⟩).mapPorts fun k port =>
              { port with portLost := clear (s.port k).portLost (sel (25 + k.val) 4) }).ports }

/-! ## Profile store -/

/-- R174: STORE_READ returns the bytes from the address on, as many as the count asks, up to address 1,023, whether or not an operation runs; STORE_STATUS returns the operation, its section, the last result, the installer-mode flag and the commit map. Either with a wrong operand count is refused LENGTH. -/
def Obligations.StoreReads : Prop :=
  ∀ (s : State) (q : PortId) (role : Role) (rest : List RequestFrame), JoinedAs s q role →
    (∀ (address : List Byte) (count : Byte), address.length = 2 →
      AtTurn s q (goodFrame 0x50 (address ++ [count])) rest →
      (number address < 1024 → 1 ≤ count.toNat → count.toNat ≤ 16 →
        let n := min count.toNat (1024 - number address)
        exec (.storeRead q) s = .next (s.answered q rest ⟨if n = count.toNat then .done else .clamped, 0x50,
          address ++ [byteOf n] ++ (List.range n).map fun i => s.byteAt (number address + i)⟩)) ∧
      ((1024 ≤ number address ∨ count = 0 ∨ 16 < count.toNat) →
        exec (.storeRead q) s = .next (s.answered q rest ⟨.refused .range, 0x50, []⟩))) ∧
    (∀ operands, (operands.length ≠ 3 → AtTurn s q (goodFrame 0x50 operands) rest →
        exec (.storeRead q) s = .next (s.answered q rest ⟨.refused .length, 0x50, []⟩)) ∧
      (operands ≠ [] → AtTurn s q (goodFrame 0x54 operands) rest →
        exec (.storeStatus q) s = .next (s.answered q rest ⟨.refused .length, 0x54, []⟩))) ∧
    (AtTurn s q (goodFrame 0x54 []) rest → ∃ op sect, exec (.storeStatus q) s = .next (s.answered q rest ⟨.done, 0x54,
        [op, sect, if s.lastResult = .ok then 0 else 1, if s.installer then 1 else 0, s.commitMap]⟩) ∧
      (match s.storeOp with
       | .idle => op = 0 ∧ sect = 0xFF
       | .writing address _ => op = 1 ∧ sect = byteOf (sectionOf address)
       | .committing x => op = 2 ∧ sect = byteOf x
       | .erasing x _ => op = 3 ∧ sect = byteOf x))

/-- R173, R175, R176, R177, Table 11-2: how STORE_WRITE, STORE_COMMIT and STORE_ERASE from ROOM begin an operation, or are refused, in the order of their checks. -/
def Obligations.StoreOperationsBegin : Prop :=
  ∀ (s : State) (q : PortId) (rest : List RequestFrame), JoinedAs s q .room →
    (∀ (address data : List Byte), address.length = 2 → 1 ≤ data.length → data.length ≤ 16 →
      AtTurn s q (goodFrame 0x51 (address ++ data)) rest →
      let a := number address
      let accepted := min data.length (16 - a % 16)
      let refused := fun x => exec (.storeWrite q) s = .next (s.answered q rest ⟨.refused x, 0x51, []⟩)
      (1024 ≤ a → refused .range) ∧
      (a < 1024 → s.storeOp ≠ .idle → refused .storeBusy) ∧
      (a < 1024 → s.storeOp = .idle → s.commitMap.getLsbD (sectionOf a) = true → refused .protected_) ∧
      (a < 1024 → s.storeOp = .idle → s.commitMap.getLsbD (sectionOf a) = false →
        exec (.storeWrite q) s = .next ({ s with storeOp := .writing a (data.take accepted) }.answered q rest
          ⟨.started, 0x51, address ++ [byteOf accepted]⟩))) ∧
    (∀ x : Byte, AtTurn s q (goodFrame 0x52 [x]) rest →
      let refused := fun r => exec (.storeCommit q) s = .next (s.answered q rest ⟨.refused r, 0x52, []⟩)
      (7 < x.toNat → refused .range) ∧ (x.toNat ≤ 7 → s.storeOp ≠ .idle → refused .storeBusy) ∧
      (x.toNat ≤ 7 → s.storeOp = .idle → s.commitMap.getLsbD x.toNat = true →
        exec (.storeCommit q) s = .next (s.answered q rest ⟨.done, 0x52, [x]⟩)) ∧
      (x.toNat ≤ 7 → s.storeOp = .idle → s.commitMap.getLsbD x.toNat = false →
        exec (.storeCommit q) s =
          .next ({ s with storeOp := .committing x.toNat }.answered q rest ⟨.started, 0x52, [x]⟩))) ∧
    (∀ x : Byte, AtTurn s q (goodFrame 0x53 [x]) rest →
      let refused := fun r => exec (.storeErase q) s = .next (s.answered q rest ⟨.refused r, 0x53, []⟩)
      (7 < x.toNat → refused .range) ∧ (x.toNat ≤ 7 → s.installer = false → refused .notInstaller) ∧
      (x.toNat ≤ 7 → s.installer = true → s.storeOp ≠ .idle → refused .storeBusy) ∧
      (x.toNat ≤ 7 → s.installer = true → s.storeOp = .idle →
        exec (.storeErase q) s = .next ({ s with storeOp := .erasing x.toNat (firstBlock x.toNat) }.answered q rest
          ⟨.started, 0x53, [x]⟩)))

/-- R165, R167, R173, R175 to R178: what the end of an operation changes. Each accepted byte takes its new value, the section becomes COMMITTED, each byte of a block becomes 0xFF, and with the last block the section becomes BLANK; a timeout ends it FAILED and latches STORE_TIMEOUT, and the completion that follows it is discarded, whatever operation runs by then (log 14). -/
def Obligations.StoreOperationsEnd : Prop :=
  ∀ s : State, s.settled → s.storeSound →
    let ended := fun (t : State) => { s with
      store := t.store, storeOp := .idle, lastResult := .ok, ports := (s.noticed Category.store.bit).ports }
    (∀ address data, s.storeOp = .writing address data → s.lateStores = 0 → leaves (exec .storeCompletion s) fun t =>
      (∀ a, t.byteAt a = if address ≤ a ∧ a < address + data.length then data.getD (a - address) 0 else s.byteAt a) ∧
      t = ended t) ∧
    (∀ x, s.storeOp = .committing x → s.lateStores = 0 →
      exec .storeCompletion s = .next { ended s with commitMap := s.commitMap ||| (1#8 <<< x) }) ∧
    (∀ x block, s.storeOp = .erasing x block → s.lateBlocks = 0 → leaves (exec .eraseBlockCompletion s) fun t =>
      (∀ a, t.byteAt a = if a / 64 = block then 0xFF else s.byteAt a) ∧
      (block < lastBlock x → t = { s with store := t.store, storeOp := .erasing x (block + 1) }) ∧
      (block = lastBlock x → t = { ended t with commitMap := s.commitMap &&& ~~~(1#8 <<< x) })) ∧
    (∀ n, (s.lateStores = n + 1 → exec .storeCompletion s = .next { s with lateStores := n }) ∧
      (s.lateBlocks = n + 1 → exec .eraseBlockCompletion s = .next { s with lateBlocks := n })) ∧
    (s.storeOp ≠ .idle → leaves (exec .operationTimeout s) fun t =>
      let erases := ∃ x block, s.storeOp = .erasing x block
      (erases → t.lateStores = s.lateStores ∧ t.lateBlocks = s.lateBlocks + 1) ∧
      (¬ erases → t.lateStores = s.lateStores + 1 ∧ t.lateBlocks = s.lateBlocks) ∧
      t = { s with
        store := t.store, storeOp := .idle, lastResult := .failed, storeTimeout := true, freeCount := s.freeCount + 1
        lateStores := t.lateStores, lateBlocks := t.lateBlocks
        ports := (s.noticed (Category.store.bit ||| onlyIf (!s.storeTimeout) .faults)).ports })

/-- R10, R15, R131, R180, R181: PROFILE_LOAD from ROOM replaces the room tables by what the store gives, with its notices. Pods listed before and after keep their link state, holds, envelopes and talker entries, which take the loaded class; the loaded OPEN_LIMIT cuts the list and a loaded LAST_ON of 0 removes a LAST entry (log 10). A contribution gain stays at most the loaded trim (log 12). The privacy record, the legs and the store stay. The slot in progress goes on, its reply discarded if its pod was unlisted, and a slot begins where polling was stopped. -/
def Obligations.ProfileLoadReplacesTheTables : Prop :=
  ∀ (s : State) (q : PortId) (rest : List RequestFrame), s.sound → JoinedAs s q .room →
    AtTurn s q (goodFrame 0x55 []) rest →
    (s.anyLegActive = true → exec (.profileLoad q) s = .next (s.answered q rest ⟨.refused .legsActive, 0x55, []⟩)) ∧
    (s.anyLegActive = false → s.storeOp ≠ .idle →
      exec (.profileLoad q) s = .next (s.answered q rest ⟨.refused .storeBusy, 0x55, []⟩)) ∧
    (s.anyLegActive = false → s.storeOp = .idle → leaves (exec (.profileLoad q) s) fun t =>
      let kept := fun p => (s.pod p).listed && (t.pod p).listed
      let cleared := fun p => (s.pod p).listed && !(t.pod p).listed
      let newly := fun p => !(s.pod p).listed && (t.pod p).listed
      let ended := fun (r : FaultRecord) => r.latch && r.condition
      let notices := onlyIf (allPods.any fun p => (s.pod p).listed != (t.pod p).listed ||
          (s.pod p).chair != (t.pod p).chair || (s.pod p).cls != (t.pod p).cls) .pods |||
        onlyIf (allPods.any fun p => newly p || (cleared p && decide ((s.pod p).holds ≠ HoldSet.empty))) .holds |||
        onlyIf (decide (t.talkers.length < s.talkers.length) ||
          allPods.any fun p => (s.pod p).mutedTalk != (t.pod p).mutedTalk) .talkers |||
        onlyIf (allPods.any fun p => cleared p &&
          (ended (s.pod p).podLost || ended (s.pod p).podClip || ended (s.pod p).podLocal)) .faults
      TablesFrom s t ∧
      (∀ p, t.pod p = ({ s.pod p with
          listed := (t.pod p).listed, chair := (t.pod p).chair, cls := (t.pod p).cls, excl := (t.pod p).excl
          trim := (t.pod p).trim, volume := (t.pod p).volume
          holds := if kept p then (s.pod p).holds else if (t.pod p).listed then HoldSet.linkOnly else HoldSet.empty
          mutedTalk := kept p && (s.pod p).mutedTalk
          level := if kept p then (s.pod p).level else 0, floor := if kept p then (s.pod p).floor else 0
          muteEnv := if kept p then (s.pod p).muteEnv else Ramp.flat 0
          gateEnv := if kept p then (s.pod p).gateEnv else Ramp.flat 0
          contrib := if kept p then ⟨(s.pod p).contrib.prev, min (s.pod p).contrib.now (t.pod p).trim⟩ else Ramp.flat 0
          contribEnd := if kept p then (s.pod p).contribEnd else 0
          link := if kept p then (s.pod p).link else if (t.pod p).listed then .seeking else .unlisted
          misses := if kept p then (s.pod p).misses else 0
          baselines := if kept p then (s.pod p).baselines else none
          shortDue := if kept p then (s.pod p).shortDue else 0, longDue := if kept p then (s.pod p).longDue else 0
          localFault := kept p && (s.pod p).localFault
          podLost := if cleared p then { (s.pod p).podLost with condition := false } else (s.pod p).podLost
          podClip := if cleared p then { (s.pod p).podClip with condition := false } else (s.pod p).podClip
          podLocal := if cleared p then { (s.pod p).podLocal with condition := false } else (s.pod p).podLocal } :
            Pod).following t p) ∧
      (∀ m, t.leg m = { s.leg m with gain := (t.leg m).gain }) ∧
      (∃ cut : List Talker,
        let stayed := (s.talkers.filter fun e => (t.pod e.pod).listed).map fun e : Talker =>
          { e with cls := (t.pod e.pod).cls }
        cut.Sublist stayed ∧ cut.length = min t.tuning.openLimit stayed.length ∧
        (∀ gone ∈ stayed, ∀ stays ∈ cut, gone ∉ cut → cutBefore stayed gone stays) ∧
        t.talkers = if t.tuning.lastOn = 0 then cut.filter (fun e => e.state ≠ .last) else cut) ∧
      (∀ p, s.slot = none → (∀ k, (s.pod k).listed = false) → (t.pod p).listed = true →
        (∀ k, (t.pod k).listed = true → p ≤ k) →
        t.lastPolled = addressOf p ∧ t.slot = some ⟨p, pollLevels p (t.pod p).pattern, false, false⟩) ∧
      ((s.slot ≠ none ∨ (∃ k, (s.pod k).listed = true) ∨ (∀ k, (t.pod k).listed = false)) →
        t.slot = s.slot.map (fun x => if cleared x.pod && !x.judged then { x with discard := true } else x) ∧
        t.lastPolled =
          (if allPods.any cleared && !(allPods.any fun p => (t.pod p).listed) then 0 else s.lastPolled)) ∧
      t = { s with
        pods := t.pods, legs := t.legs, tuning := t.tuning, talkers := t.talkers
        lastPolled := t.lastPolled, slot := t.slot
        ports := ((s.noticed notices).answered q rest ⟨.done, 0x55, [s.commitMap]⟩).ports })

/-! ## The pod link -/

/-- R130, R131, R132, Table 12-9: a slot begins for the next listed pod with its poll of four characters, the first with its marker at 1, sent back to back with the direction output asserted, after which the line is released; with no pod listed none begins. The slot before has been judged and the pod's presses delivered; what is overdue is taken first (R134, R142, log 11), and with no pod listed the last-polled address is 0 (log 10). -/
def Obligations.SlotStartPollsTheNextPod : Prop :=
  ∀ s : State, s.settled → (∀ x ∈ s.slot, x.judged = true) →
    ((∀ p, (s.pod p).listed = false) → exec .slotStart s = .next { s with slot := none, lastPolled := 0 }) ∧
    (∀ p, s.nextSlotIs p →
      ((s.pod p).shortDue = 0 → (s.pod p).longDue = 0 → exec .slotStart s = .next { s with
        lastPolled := addressOf p
        slot := some ⟨p, pollLevels p (s.pod p).pattern, false, false⟩ }) ∧
      (0 < (s.pod p).shortDue → leaves (exec (.shortPress (addressOf p)) s) fun s1 =>
        exec .slotStart s = exec .slotStart s1) ∧
      ((s.pod p).shortDue = 0 → 0 < (s.pod p).longDue → leaves (exec (.longPress (addressOf p)) s) fun s1 =>
        exec .slotStart s = exec .slotStart s1)) ∧
    (∀ s0 x, s0.slot = some x → x.judged = false → exec .replyWindowCloses s0 = .next s →
      exec .slotStart s0 = exec .slotStart s)

/-- R130, R134, R137, R140 to R144, R166, Table 8-2: five characters on the line, with any rest between them, that pass the four tests of R135 are a good reply; what follows them is discarded. The pod enters ONLINE; from SEEKING or LOST it loses LINK and its counts only set the baselines, else their differences modulo 16 are the presses to deliver. An end of POD_LOST or POD_LOCAL raises FAULTS as log 13 takes it. -/
def Obligations.GoodReplyJudged : Prop :=
  ∀ (s : State) (x : Slot) (a b c d e tail : List Bool) (echo counts flags high low : LineSegment),
    s.settled → s.linkSound → Awaiting s x →
    a ++ b ++ c ++ d ++ e = levelsOf false [echo, counts, flags, high, low] ++ tail →
    (∀ u ∈ [echo, counts, flags, high, low], u.good = true) → echo.data.toNat = addressOf x.pod →
    high.data = (crc16 [echo.data, counts.data, flags.data]).extractLsb' 8 8 →
    low.data = (crc16 [echo.data, counts.data, flags.data]).extractLsb' 0 8 →
    leaves (exec (.replyComplete a b c d e) s) fun t =>
      let pod := s.pod x.pod
      let short := counts.data.toNat % 16
      let long := counts.data.toNat / 16
      let fault := flags.data.getLsbD 0
      let held := pod.link == .seeking || pod.link == .lost
      let base := pod.baselines.getD ⟨short, long⟩
      let faults := (pod.link == .lost && pod.podLost.latch && pod.podLost.condition) ||
        (if fault then !pod.podLocal.latch else pod.podLocal.latch && pod.podLocal.condition)
      (∀ p, t.pod p = if p = x.pod then ({ pod with
          link := .online, misses := 0, baselines := some ⟨short, long⟩, localFault := fault
          shortDue := ((((short : Int) - base.short) % 16).toNat), longDue := ((((long : Int) - base.long) % 16).toNat)
          holds := if held then { pod.holds with link := false } else pod.holds
          mutedTalk := flagLeft s t p
          podLost := if pod.link = .lost then { pod.podLost with condition := false } else pod.podLost
          podLocal := if fault then ⟨true, true⟩ else { pod.podLocal with condition := false } } : Pod).following t p
        else s.pod p) ∧
      t = { s with
        pods := t.pods, slot := some { x with judged := true }
        ports := (s.noticed (onlyIf (pod.link != .online) .pods ||| holdNotices s t ||| onlyIf faults .faults)).ports }

/-- R130, R134 to R139, R144, R166, Table 8-2: a window that closes is a timeout; a bad stop bit or a marker in the first five characters on the line is a framing error; a check or an echo that differs is a check failure. Each miss is counted, and an ONLINE pod becomes DOUBTFUL, and a SEEKING or DOUBTFUL one LOST at MISS_LIMIT, held by LINK. -/
def Obligations.MissJudged : Prop :=
  ∀ (s : State) (x : Slot) (c : Instr) (kind : Miss), s.settled → s.linkSound → Awaiting s x →
    ((c = .replyWindowCloses ∧ kind = .timeout) ∨
      ∃ l1 l2 l3 l4 l5 tail echo counts flags high low, c = .replyComplete l1 l2 l3 l4 l5 ∧
        l1 ++ l2 ++ l3 ++ l4 ++ l5 = levelsOf false [echo, counts, flags, high, low] ++ tail ∧
        let framing := ∃ u ∈ [echo, counts, flags, high, low], u.marker = true ∨ u.stop = false
        let check := crc16 [echo.data, counts.data, flags.data]
        ((framing ∧ kind = .framing) ∨
         (¬ framing ∧ kind = .check ∧
          (high.data ≠ check.extractLsb' 8 8 ∨ low.data ≠ check.extractLsb' 0 8 ∨
            echo.data.toNat ≠ addressOf x.pod)))) →
    leaves (exec c s) fun t =>
      let pod := s.pod x.pod
      let counting := pod.link == .seeking || pod.link == .doubtful
      let lost := counting && decide (s.tuning.missLimit ≤ pod.misses + 1)
      let old := (match kind with
        | .timeout => pod.timeouts | .framing => pod.framingErrors | .check => pod.checkFailures)
      let up := fun (k : Miss) (n : Nat) => if k = kind then min 255 (n + 1) else n
      let faults := (decide (old = 254) && !pod.podErrors.latch) || (lost && !pod.podLost.latch)
      (∀ p, t.pod p = if p = x.pod then ({ pod with
          timeouts := up .timeout pod.timeouts, framingErrors := up .framing pod.framingErrors
          checkFailures := up .check pod.checkFailures
          link := if lost then .lost else if pod.link = .online then .doubtful else pod.link
          misses := if counting then pod.misses + 1 else if pod.link = .online then 1 else pod.misses
          baselines := if lost then none else pod.baselines
          shortDue := if lost then 0 else pod.shortDue, longDue := if lost then 0 else pod.longDue
          holds := if lost then { pod.holds with link := true } else pod.holds
          podErrors := if old = 254 then ⟨true, true⟩ else pod.podErrors
          podLost := if lost then ⟨true, true⟩ else pod.podLost } : Pod).following t p
        else s.pod p) ∧
      t = { s with
        pods := t.pods, slot := some { x with judged := true }, talkers := talkersLeft s t
        ports := (s.noticed (onlyIf (lost || pod.link == .online) .pods ||| holdNotices s t |||
          onlyIf faults .faults)).ports }

/-! ## Audio lanes -/

/-- R109 to R111: a complete sample period, of 256 bit clocks or more, places its slots in the assembly, each slot most significant bit first, while the output sample of the same index leaves on the wires in the same way; bit clocks after the 256th are ignored, and every output wire is at 0 during them. Where the watchdog ran out in the period, its levels before that stand as they were (R114; log 21). -/
def Obligations.SamplePeriodFillsTheAssembly : Prop :=
  ∀ (s : State) (clocks : List LaneClock), s.underway.length < 256 → 256 ≤ clocks.length → s.assembly.length + 1 < 48 →
    leaves (exec (.samplePeriodComplete clocks) s) fun t => ∃ lanes : LaneInput,
      shiftedIn clocks lanes ∧ carriesIndex t.lanesOut s.underway s.inProgress s.assembly.length clocks.length ∧
      t = { s with lanesOut := t.lanesOut, underway := [], assembly := s.assembly ++ [lanes] }

/-- R79, R106, R110, R111, R113, R115: the 48th sample period of a frame hands it to GE and moves the waiting output frame onto the wires. From STARTING the lanes run without a soft start; from MISSING the soft start is taken first, with FAULTS as log 13 takes it. Frame events still to come are taken before it (log 11). The wires in a period in which the watchdog ran out are as log 21 takes them. -/
def Obligations.FrameBoundaryHandsTheFrame : Prop :=
  ∀ (s : State) (clocks : List LaneClock), s.underway.length < 256 → 256 ≤ clocks.length → s.assembly.length = 47 →
    (∀ u, FramesTaken s u → u.gateInput = none ∧ u.mixInput = none ∧
      exec (.samplePeriodComplete clocks) s = exec (.samplePeriodComplete clocks) u) ∧
    (s.settled → s.gateInput = none → s.mixInput = none →
      leaves (exec (.samplePeriodComplete clocks) s) fun t => ∃ lanes : LaneInput,
      shiftedIn clocks lanes ∧ carriesIndex t.lanesOut s.underway s.inProgress 47 clocks.length ∧
      let handed : State := { s with
        lanesOut := t.lanesOut, underway := [], assembly := [], inProgress := s.waiting, waiting := none
        gateInput := some ⟨s.assembly ++ [lanes], true⟩, sync := .running }
      (s.sync ≠ .missing → t = handed) ∧
      (s.sync = .missing →
        (∀ p, t.pod p = ({ s.pod p with
          muteEnv := Ramp.flat 0, gateEnv := Ramp.flat 0, contrib := Ramp.flat 0, contribEnd := 0
          level := 0, floor := 0, mutedTalk := false } : Pod).following t p) ∧
        (∀ m, t.leg m = { s.leg m with
          receiveEnv := Ramp.flat 0, sendEnv := Ramp.flat 0, receiveFactor := Ramp.flat 0 }) ∧
        t = { handed with
          pods := t.pods, legs := t.legs, talkers := [], nomGain := Ramp.flat 65536, watchdog := true
          audioClock := { s.audioClock with condition := false }
          ports := (s.noticed (Category.talkers.bit |||
            onlyIf (s.audioClock.latch && s.audioClock.condition) .faults)).ports }))

/-- R112, R114, R165, R167: a short period and the running out of the watchdog discard the assembly and both computed output frames; the watchdog also makes the sync state MISSING and latches AUDIO_CLOCK. The output wires have carried the period's slots up to the break, after a number of bit clocks below 256 that is free (log 21); after the watchdog the period goes on with 0. Frame events still to come are taken before the watchdog's (log 11). -/
def Obligations.LanesBreakOff : Prop :=
  ∀ s : State, s.underway.length < 256 →
    (leaves (exec .shortPeriod s) fun t => ∃ n, n < 256 ∧
      carriesIndex t.lanesOut s.underway s.inProgress s.assembly.length n ∧
      t = { s with
        assembly := [], waiting := none, inProgress := none, lanesOut := t.lanesOut, underway := []
        gateInput := s.gateInput.map fun w => { w with deliver := false }
        mixInput := s.mixInput.map fun w => { w with deliver := false }, freeCount := s.freeCount + 1 }) ∧
    (s.watchdog = true → ∀ u, FramesTaken s u → u.gateInput = none ∧ u.mixInput = none ∧
      exec .watchdogExpiry s = exec .watchdogExpiry u) ∧
    (s.settled → s.watchdog = true → s.gateInput = none → s.mixInput = none →
      leaves (exec .watchdogExpiry s) fun t => ∃ n, n < 256 ∧
        carriesIndex t.underway s.underway s.inProgress s.assembly.length n ∧
        t = { s with
          assembly := [], waiting := none, inProgress := none, underway := t.underway, freeCount := s.freeCount + 1
          sync := .missing, watchdog := false, audioClock := ⟨true, true⟩
          ports := (s.noticed (onlyIf (!s.audioClock.latch) .faults)).ports })

/-! ## Gate engine -/

/-- R60 to R66, R80, R84, R165, R166: the frame work's tracking, flags and hand-offs. L follows the peak, a channel qualifies above the larger of ABS_THRESHOLD and its scaled floor, F follows L, and a muted channel that qualifies is flagged. FAULTS is raised where a clip result changes a record (log 13). -/
def Obligations.FrameWorkTracksAndFlags : Prop :=
  ∀ (s : State) (w : WorkFrame), s.settled → s.gateInput = some w →
    leaves (exec .frameWork s) fun t =>
      let xs := fun p => w.samples.map fun l => podSample l p
      let clip := fun p => decide (-8388608 ∈ xs p ∨ 8388607 ∈ xs p)
      let report := fun p => if clip p then !(s.pod p).podClip.latch
        else (s.pod p).podClip.latch && (s.pod p).podClip.condition
      let moved := decide (s.talkers.map (fun e => (e.pod, e.state.gate)) ≠ t.talkers.map (fun e => (e.pod, e.state.gate))) ||
        allPods.any fun p => (s.pod p).mutedTalk != (t.pod p).mutedTalk
      (∀ p, (s.pod p).listed = false → t.pod p = (s.pod p).following t p) ∧
      (∀ p, (s.pod p).listed = true → ∃ peak, (∀ v ∈ xs p, v.natAbs ≤ peak) ∧
        (peak = 0 ∨ ∃ v ∈ xs p, v.natAbs = peak) ∧
        let l := if (s.pod p).level < peak then peak else (s.pod p).level - (s.pod p).level / 64
        let f := (s.pod p).floor
        t.pod p = ({ s.pod p with
          level := l
          floor := if l < f then l else min 8388608 (f + f / 16384 + 1)
          mutedTalk := decide (max s.tuning.absThreshold (f * 2 ^ s.tuning.marginShift) < l) && s.muted p
          podClip := if clip p then ⟨true, true⟩ else { (s.pod p).podClip with condition := false } } :
            Pod).following t p) ∧
      t = { s with
        pods := t.pods, talkers := t.talkers, frameCount := s.frameCount + 1, gateInput := none, mixInput := some w
        ports := (s.noticed (onlyIf moved .talkers |||
          onlyIf (allPods.any fun p => (s.pod p).listed && report p) .faults)).ports }

/-- R67 to R77: the talker list after a frame work. The entries part leaves `entriesAfter`; the candidates are admitted in rank order as OPEN entries at the tail while there is room or an entry to displace, within OPEN_LIMIT; an OPEN entry makes way only for candidates of a class above its own, and a candidate left out meets only OPEN entries of no lower class. -/
def Obligations.FrameWorkSettlesTheTalkerList : Prop :=
  ∀ (s : State) (w : WorkFrame), s.settled → s.talkersSound → s.gateInput = some w →
    leaves (exec .frameWork s) fun t => ∃ (admitted : List PodId) (stay : List Talker),
      let passed := s.entriesAfter w
      t.talkers.length ≤ s.tuning.openLimit ∧ t.talkers = stay ++ admitted.map (fun p => ⟨p, .opened, (s.pod p).cls, s.frameCount + 1⟩) ∧
      stay.Sublist passed ∧ stay.length = min passed.length (s.tuning.openLimit - admitted.length) ∧
      admitted.Nodup ∧ admitted.Pairwise (s.ranksBefore w) ∧ (∀ p ∈ admitted, s.candidate w p) ∧
      (∀ p, s.candidate w p → p ∉ admitted → (∀ a ∈ admitted, s.ranksBefore w a p) ∧
        t.talkers.length = s.tuning.openLimit ∧ ∀ e ∈ t.talkers, e.state = .opened ∧ (s.pod p).cls ≤ e.cls) ∧
      (∀ gone ∈ passed, gone ∉ stay → (∀ kept ∈ stay, displacedBefore passed gone kept) ∧
        (gone.isOpen = true → ∀ a ∈ admitted, gone.cls < (s.pod a).cls))

/-! ## Mix engine -/

/-- R45 to R49, R87, R89, R93 to R97 and law 13: the envelopes and frame gains of a mix frame event. A contribution gain slides from the value on which the last computed frame ended (log 12). A frame that the lanes broke off hands AL nothing (R112, log 11). -/
def Obligations.MixFrameEventMovesTheGains : Prop :=
  ∀ (s : State) (w : WorkFrame), s.settled → s.mixInput = some w →
    leaves (exec .mixFrameEvent s) fun t =>
      let ceil := fun frames => (65536 + frames - 1) / frames
      let ramp := ceil s.tuning.muteRamp
      (∀ p, t.pod p =
        let pod := s.pod p
        let slid := { pod with volumeGain := ⟨pod.volumeGain.now, pod.volume⟩ }
        if pod.listed then
          let m := moved pod.muteEnv.now (if s.muted p then 0 else 65536) ramp
          let open_ := s.talkers.any fun e => e.pod == p
          let target := if open_ then 65536 else s.tuning.offGain
          let g := moved pod.gateEnv.now target
            (if pod.gateEnv.now < target then ceil s.tuning.attack else ceil s.tuning.release)
          ({ slid with
            muteEnv := ⟨pod.muteEnv.now, m⟩, gateEnv := ⟨pod.gateEnv.now, g⟩
            contrib := ⟨pod.contribEnd, ((pod.trim * m + 32768) / 65536 * g + 32768) / 65536⟩
            contribEnd := ((pod.trim * m + 32768) / 65536 * g + 32768) / 65536 } : Pod).following t p
        else slid) ∧
      (∀ m, t.leg m =
        let leg := s.leg m
        let target := fun (h : LegHolds) => if leg.state = .opened ∧ h = LegHolds.empty then 65536 else 0
        let e := moved leg.receiveEnv.now (target leg.receiveHolds) ramp
        { leg with
          receiveEnv := ⟨leg.receiveEnv.now, e⟩
          sendEnv := ⟨leg.sendEnv.now, moved leg.sendEnv.now (target leg.sendHolds) ramp⟩
          receiveFactor := ⟨leg.receiveFactor.now, (leg.gain * e + 32768) / 65536⟩ }) ∧
      (s.gainsSound → s.tablesSound → ∀ p, (s.pod p).listed = true → (t.pod p).contrib.now ≤ (t.pod p).trim) ∧
      (s.linkSound → ∀ p, (s.pod p).listed = false → (t.pod p).contrib = Ramp.flat 0) ∧
      (w.deliver = false → t.waiting = s.waiting) ∧
      t = { s with
        pods := t.pods, legs := t.legs, waiting := t.waiting, mixInput := none
        nomGain := ⟨s.nomGain.now,
          [65536, 65536, 46341, 37837, 32768, 29309, 26755, 24770].getD s.talkers.length 23170⟩
        reinforceGain := ⟨s.reinforceGain.now, s.tuning.reinforce⟩ }

/-- R90 to R92, R97 to R104, Table 5-4: the 29 outputs of each sample of a frame that the lanes have not broken off, from the gains the event leaves. -/
def Obligations.MixFrameEventFormsTheOutputs : Prop :=
  ∀ (s : State) (w : WorkFrame), s.settled → s.mixInput = some w → w.deliver = true →
    leaves (exec .mixFrameEvent s) fun t =>
      ∃ out, t.waiting = some out ∧ out.length = w.samples.length ∧
        ∀ (k : Nat) (l : LaneInput) (o : OutputSample), w.samples[k]? = some l → out[k]? = some o →
          let g := fun (r : Ramp) => (r.prev : Int) + (((r.now : Int) - r.prev) * (k + 1)).tdiv 48
          let shift := fun (v : Int) (n : Nat) => max (-8388608) (min 8388607 (v.sign * ((v.natAbs + 2 ^ (n - 1)) / 2 ^ n : Nat)))
          let x := fun p => if (s.pod p).listed then podSample l p * g (t.pod p).contrib else 0
          let y := fun m => if (s.leg m).state = .closed then 0 else legSample l m * g (t.leg m).receiveFactor
          let room := ∑ p : PodId, x p
          let bridge := ∑ m : LegId, y m
          (∀ m : LegId, o.sends[m] = shift (g (t.leg m).sendEnv * (room * g t.nomGain + 65536 * (bridge - y m))) 48) ∧
          o.record = shift (room * g t.nomGain + 65536 * bridge) 32 ∧
          (∀ p : PodId, o.feeds[p] =
            if (s.pod p).listed then
              let others := ∑ i : PodId, if PodSet.has (s.pod p).excl i then 0 else x i
              shift (g (t.pod p).volumeGain * (65536 * bridge + g t.reinforceGain * others)) 48
            else 0)

/-- R89, R90: the half-up product and the nearest, ties away from zero, shift, with the properties and the figures the rules give. -/
def Obligations.RoundingsOfTheMixEngine : Prop :=
  (∀ a b, halfUp a b = (a * b + 32768) / 65536 ∧ halfUp a 65536 = a ∧ halfUp a 0 = 0 ∧
    (b ≤ 65536 → halfUp a b ≤ a)) ∧
  (halfUp 65535 1 = 1 ∧ halfUp 32767 1 = 0 ∧ halfUp 32768 1 = 1 ∧ halfUp 131072 65536 = 131072) ∧
  (∀ (v : Int) (n : Nat), 1 ≤ n → shiftNearest (-v) n = -shiftNearest v n ∧
    2 * (shiftNearest v n * 2 ^ n - v).natAbs ≤ 2 ^ n ∧
    (2 * (shiftNearest v n * 2 ^ n - v).natAbs = 2 ^ n → v.natAbs < (shiftNearest v n).natAbs * 2 ^ n)) ∧
  [6, 5, -5, -6, -9, -10].map (fun v => shiftNearest v 2) = [2, 1, -1, -2, -2, -3]

/-- Law 2 (R101): the send to a leg does not depend on that leg's received audio. -/
def Obligations.NoLegHearsItself : Prop :=
  ∀ (s t t' : State) (j : LegId) (ls ls' : List LaneInput), ls.length = ls'.length →
    (∀ (k : Nat) (l l' : LaneInput), ls[k]? = some l → ls'[k]? = some l' →
      (∀ p, podSample l p = podSample l' p) ∧ ∀ m, m ≠ j → legSample l m = legSample l' m) →
    exec .mixFrameEvent { s with mixInput := some ⟨ls, true⟩ } = .next t →
    exec .mixFrameEvent { s with mixInput := some ⟨ls', true⟩ } = .next t' →
    ∃ out out', t.waiting = some out ∧ t'.waiting = some out' ∧ out.length = out'.length ∧
      ∀ (k : Nat) (o o' : OutputSample), out[k]? = some o → out'[k]? = some o' → o.sends[j] = o'.sends[j]

/-! ## Laws that every step keeps -/

/-- The reset state keeps every law and relation of Safety.lean, whatever the sender's queue holds. -/
def Obligations.ResetStateIsSound : Prop := ∀ cs : List Instr, { State.reset with pending := cs }.sound

/-- Laws 6 and 7 (R53, R55 to R58, R68, R160): after every step nothing is left to recompute (log 7). Each indicator entry is the one R55 selects: DARK for an unlisted pod; TALKING or LIVE by the talker list while M is above 0; LIVE at M 0 for a resolved-unmuted pod; else PRIVATE, MUTED_SPEAKING, MUTED_SELF for the hold set {POD} or MUTED_HELD. So each listed pod shows a pattern of the muted family exactly when it is resolved-muted with its mute envelope at 0. Each gate state is that of the channel's entry, CLOSED without one; MA's copies follow the flags and the attention lines the queues and pending sets; and while privacy is active no mute envelope rises. -/
def Obligations.IndicatorsFollowTheMute : Prop :=
  ∀ s t : State, s.settled → step s = .next t →
    t.settled ∧
    (∀ p, (t.pod p).pattern =
      if (t.pod p).listed = false then .dark
      else if 0 < (t.pod p).muteEnv.now then (if ∃ e ∈ t.talkers, e.pod = p then .talking else .live)
      else if (t.pod p).holds = HoldSet.empty ∧ t.privacy = none then .live
      else if t.privacy ≠ none then .privateRoom
      else if (t.pod p).mutedTalk = true then .mutedSpeaking
      else if (t.pod p).holds = ⟨true, false, false, false⟩ then .mutedSelf
      else .mutedHeld) ∧
    (∀ p, (t.pod p).gate = match t.talkers.find? fun e => e.pod = p with
      | some ⟨_, .opened, _, _⟩ => .opened
      | some ⟨_, .hold _, _, _⟩ => .hold
      | some ⟨_, .last, _, _⟩ => .last
      | none => .closed) ∧
    (∀ p, (t.pod p).flagCopy = (t.pod p).mutedTalk) ∧
    (∀ q, (t.port q).attention = true ↔ ((t.port q).replies ≠ [] ∨ (t.port q).pendingSet ≠ 0)) ∧
    (∀ p, (t.pod p).listed = true →
      ((t.pod p).pattern ∈ [Pattern.mutedSelf, .mutedHeld, .mutedSpeaking, .privateRoom] ↔
        (((t.pod p).holds ≠ HoldSet.empty ∨ t.privacy.isSome = true) ∧ (t.pod p).muteEnv.now = 0))) ∧
    (t.privacy.isSome = true → ∀ p, (t.pod p).muteEnv.now ≤ (s.pod p).muteEnv.now)

/-- Laws 1, 9 and 13 (R2, R3, R11, R44, R51, R88, R93): the tables stay in range with every exclusion set containing its own pod, the envelopes of a CLOSED leg stay at 0, and every contribution gain stays at most its pod's trim (log 12), every gain in its range. -/
def Obligations.TablesGainsAndClosedLegsKept : Prop :=
  ∀ s t : State, s.tablesSound → s.legsSound → step s = .next t →
    t.tablesSound ∧ t.legsSound ∧ (s.gainsSound → t.gainsSound)

/-- Laws 8 and 10 (R150, R151, R153): roles, timers, masks, pending sets and queues stay as the port states allow. -/
def Obligations.PortsAndQueuesKept : Prop :=
  ∀ s t : State, s.portsSound → step s = .next t → t.portsSound

/-- Law 3 (R67, R71): the talker list stays within OPEN_LIMIT, without repeats, of listed resolved-unmuted channels with their pods' classes. -/
def Obligations.TalkerListKept : Prop :=
  ∀ s t : State, s.sound → step s = .next t → t.talkersSound

/-- Law 5 and Table 10-1 (R37, R129, R164, R165): LINK follows the link state, unlisted pods stay cleared, and every fault condition is what its block's state gives, latched while present. -/
def Obligations.LinkHoldsAndFaultsKept : Prop :=
  ∀ s t : State, s.sound → step s = .next t → t.linkSound ∧ t.faultsSound

/-- Law 12 (R91, R110, R111, R113): every computed output frame has 48 samples in range, and no frame is under way while the lanes do not run. -/
def Obligations.OutputFramesKept : Prop :=
  ∀ s t : State, s.sound → step s = .next t → t.lanesSound ∧ t.startSound

/-- Law 11 (R172, R177): the store stays in its canonical form with its operation in bounds, and outside installer mode no command but a power-up changes the mode and none makes a COMMITTED section BLANK. -/
def Obligations.StoreAndCommitMapKept : Prop :=
  ∀ s t : State, s.storeSound → step s = .next t →
    t.storeSound ∧ (s.installer = false → ∀ x, s.commitMap.getLsbD x = true → t.commitMap.getLsbD x = true) ∧
    ((∀ install, s.pending.head? ≠ some (.powerUp install)) → t.installer = s.installer)

/-- R1: every law and relation of Safety.lean holds after every step from a state in which all of them hold. -/
def Obligations.EveryStepKeepsTheLaws : Prop :=
  ∀ s t : State, s.sound → step s = .next t → t.sound

/-- Log 3: an event that finds nothing to act on leaves the state as it stands: a request row whose frame is not at the head of the port's queue, a press that PL does not hold or of no pod, a frame event without a frame, an expiry of a timer that does not run, a completion without its operation, a reception outside a slot or with fewer than five complete characters, a sample period of fewer than 256 bit clocks, and a selection, a deselection or a shifting out that the transaction does not admit. A reply of a pod that was unlisted is discarded (R145). -/
def Obligations.EventsThatFindNothing : Prop :=
  ∀ (s : State) (q : PortId) (p : PodId), 
    ((s.pod p).shortDue = 0 → exec (.shortPress (addressOf p)) s = .next s) ∧
    ((0 < (s.pod p).shortDue ∨ (s.pod p).longDue = 0) → exec (.longPress (addressOf p)) s = .next s) ∧
    (s.gateInput = none → exec .frameWork s = .next s) ∧ (s.mixInput = none → exec .mixFrameEvent s = .next s) ∧
    (s.watchdog = false → exec .watchdogExpiry s = .next s) ∧
    ((s.port q).state = .detached ∨ (s.port q).state = .absent → exec (.presenceTimerExpiry q) s = .next s) ∧
    (∀ row : RequestRow, (∀ f ∈ (s.port q).requests.head?, f.row ≠ row) → exec (row.command q) s = .next s) ∧
    (∀ a, (a = 0 ∨ 24 < a) → exec (.shortPress a) s = .next s ∧ exec (.longPress a) s = .next s) ∧
    (s.storeOp = .idle → exec .operationTimeout s = .next s) ∧
    (s.lateStores = 0 → (s.storeOp = .idle ∨ ∃ x block, s.storeOp = .erasing x block) →
      exec .storeCompletion s = .next s) ∧
    (s.lateBlocks = 0 → (∀ x block, s.storeOp ≠ .erasing x block) → exec .eraseBlockCompletion s = .next s) ∧
    (∀ (a b c d e tail : List Bool) (us : List LineSegment), us.length < 5 → tail.length < 11 →
      a ++ b ++ c ++ d ++ e = levelsOf false us ++ tail → exec (.replyComplete a b c d e) s = .next s) ∧
    (∀ x, (s.port q).transaction = some x → x.complete = true → exec (.replyFullyShiftedOut q) s = .next s) ∧
    (∀ a b c d e, (∀ x ∈ s.slot, x.judged = true) →
      exec .replyWindowCloses s = .next s ∧ exec (.replyComplete a b c d e) s = .next s) ∧
    (∀ a b c d e x us tail, s.settled → s.slot = some x → x.judged = false → x.discard = true →
      us.length = 5 → a ++ b ++ c ++ d ++ e = levelsOf false us ++ tail →
      let judged := { s with slot := some { x with judged := true } }
      exec .replyWindowCloses s = .next judged ∧ exec (.replyComplete a b c d e) s = .next judged) ∧
    ((s.port q).transaction ≠ none → exec (.selection q) s = .next s) ∧
    (∀ clocks, clocks.length < 256 → exec (.samplePeriodComplete clocks) s = .next s) ∧
    (∀ clocked, (s.port q).transaction = none →
      exec (.deselection q clocked) s = .next s ∧ exec (.replyFullyShiftedOut q) s = .next s)
end

