-- ==== Sys2Proof/Laws/Memory.lean ====
section
/-! SUPPORT. The store's bytes: what a byte reads as after every operation on them, and that each keeps the canonical form. -/

namespace Sys2Proof.Machine

/-! ### The canonical form -/

/-- The form holds from a lower address on as well. -/
theorem Memory.wfFrom_mono {m : Memory} {low low' : Nat} (h : Memory.wfFrom low m = true) (hle : low' ≤ low) :
    Memory.wfFrom low' m = true := by
  cases m with
  | nil => rfl
  | cons c m =>
    simp only [Memory.wfFrom, Bool.and_eq_true, decide_eq_true_eq] at h ⊢
    exact ⟨⟨⟨hle.trans h.1.1.1, h.1.1.2⟩, h.1.2⟩, h.2⟩

/-- An address below the first that a list may hold reads as erased. -/
theorem Memory.read_below {m : Memory} {low a : Nat} (h : Memory.wfFrom low m = true) (ha : a < low) :
    Memory.read m a = erasedByte := by
  induction m generalizing low with
  | nil => rfl
  | cons c m ih =>
    simp only [Memory.wfFrom, Bool.and_eq_true, decide_eq_true_eq] at h
    have hne : c.1 ≠ a := by omega
    simp only [Memory.read, hne, if_false]
    exact ih h.2 (by omega)

/-- A write below the store's end keeps the form. -/
theorem Memory.wfFrom_write {m : Memory} {low a : Nat} (b : Byte) (h : Memory.wfFrom low m = true) (hl : low ≤ a)
    (ha : a < storeSize) : Memory.wfFrom low (Memory.write m a b) = true := by
  induction m generalizing low with
  | nil => by_cases hb : b = erasedByte <;> simp [Memory.write, Memory.wfFrom, hb, hl, ha]
  | cons c m ih =>
    have hc := h
    simp only [Memory.wfFrom, Bool.and_eq_true, decide_eq_true_eq] at hc
    simp only [Memory.write]
    split
    · split
      · exact h
      · rename_i hlt hb
        simp only [Memory.wfFrom, Bool.and_eq_true, decide_eq_true_eq]
        exact ⟨⟨⟨hl, ha⟩, hb⟩, ⟨⟨by omega, hc.1.1.2⟩, hc.1.2⟩, hc.2⟩
    · split
      · subst a
        split
        · exact Memory.wfFrom_mono hc.2 (by omega)
        · rename_i hb
          simp only [Memory.wfFrom, Bool.and_eq_true, decide_eq_true_eq]
          exact ⟨⟨⟨hl, ha⟩, hb⟩, hc.2⟩
      · simp only [Memory.wfFrom, Bool.and_eq_true, decide_eq_true_eq]
        exact ⟨hc.1, ih hc.2 (by omega)⟩

/-- A write of one byte keeps the canonical form. -/
theorem Memory.wf_write {m : Memory} {a : Nat} (b : Byte) (h : m.wf = true) (ha : a < storeSize) :
    (m.write a b).wf = true := Memory.wfFrom_write b h (by omega) ha

/-- A write of consecutive bytes within the store keeps the canonical form. -/
theorem Memory.wf_writeMany {m : Memory} {a : Nat} {bs : List Byte} (h : m.wf = true) (ha : a + bs.length ≤ storeSize) :
    (m.writeMany a bs).wf = true := by
  induction bs generalizing m a with
  | nil => exact h
  | cons b bs ih =>
    simp only [List.length_cons] at ha
    exact ih (Memory.wf_write b h (by omega)) (by omega)

/-- A write cut short keeps the canonical form, whichever bytes it took. -/
theorem wf_tornWrite {m : Memory} {n a : Nat} {bs : List Byte} (h : m.wf = true) (ha : a + bs.length ≤ storeSize) :
    (tornWrite n m a bs).wf = true := by
  induction bs generalizing m a with
  | nil => exact h
  | cons b bs ih =>
    simp only [List.length_cons] at ha
    refine ih ?_ (by omega)
    split
    · exact Memory.wf_write b h (by omega)
    · exact h

/-- An erased block keeps the canonical form. -/
theorem wf_eraseBlock {m : Memory} {block : Nat} (h : m.wf = true) (hb : block < 16) : (eraseBlock m block).wf = true := by
  refine Memory.wf_writeMany h ?_
  simp only [List.length_replicate, blockSize, storeSize]; omega

/-- The reset state's store has the canonical form. -/
theorem wf_reset : Memory.wf State.reset.store = true := rfl

/-! ### What a byte reads as -/

/-- One byte after a write: the new value at its address, the old one elsewhere. -/
theorem Memory.read_write {m : Memory} {a : Nat} (b : Byte) (a' : Nat) (h : m.wf = true) :
    (m.write a b).read a' = if a' = a then b else m.read a' := by
  unfold Memory.wf at h
  generalize 0 = low at h
  induction m generalizing low with
  | nil =>
    by_cases hb : b = erasedByte <;> by_cases ha : a' = a <;> simp [Memory.write, Memory.read, hb, ha]
    exact fun e => absurd e.symm ha
  | cons c m ih =>
    have hc := h
    simp only [Memory.wfFrom, Bool.and_eq_true, decide_eq_true_eq] at hc
    have below : ∀ x, x ≤ c.1 → Memory.read m x = erasedByte := fun x hx => Memory.read_below hc.2 (by omega)
    simp only [Memory.write]
    split
    · rename_i hlt
      split
      · by_cases ha : a' = a
        · subst ha; simp [Memory.read, show c.1 ≠ a' by omega, below a' (by omega), *]
        · simp [ha]
      · by_cases ha : a' = a
        · simp [Memory.read, ha]
        · simp [Memory.read, ha, show a ≠ a' from fun e => ha e.symm]
    · split
      · subst a
        split
        · by_cases ha : a' = c.1
          · subst ha; simp [below c.1 (by omega), *]
          · simp [Memory.read, ha, show c.1 ≠ a' from fun e => ha e.symm]
        · by_cases ha : a' = c.1
          · simp [Memory.read, ha]
          · simp [Memory.read, ha, show c.1 ≠ a' from fun e => ha e.symm]
      · by_cases hc1 : c.1 = a'
        · have : a' ≠ a := by omega
          simp [Memory.read, hc1, this]
        · simp only [Memory.read, hc1, if_false]
          exact ih _ hc.2

/-- One byte after a write of consecutive bytes. -/
theorem Memory.read_writeMany {m : Memory} {a : Nat} {bs : List Byte} (a' : Nat) (h : m.wf = true)
    (ha : a + bs.length ≤ storeSize) :
    (m.writeMany a bs).read a' = if a ≤ a' ∧ a' < a + bs.length then bs.getD (a' - a) 0 else m.read a' := by
  induction bs generalizing m a with
  | nil => simp only [Memory.writeMany, List.length_nil]; rw [if_neg (by omega)]
  | cons b bs ih =>
    simp only [List.length_cons] at ha ⊢
    simp only [Memory.writeMany]
    rw [ih (Memory.wf_write b h (by omega)) (by omega), Memory.read_write b a' h]
    by_cases h1 : a' = a
    · subst h1; rw [if_neg (by omega), if_pos rfl, if_pos (by omega)]; simp
    · by_cases h2 : a + 1 ≤ a' ∧ a' < a + 1 + bs.length
      · rw [if_pos h2, if_pos (by omega), show a' - a = (a' - (a + 1)) + 1 by omega]; simp
      · rw [if_neg h2, if_neg h1, if_neg (by omega)]

/-- One byte after a write cut short: its old value or, within the bytes written, its new one. -/
theorem read_tornWrite {m : Memory} {n a : Nat} {bs : List Byte} (a' : Nat) (h : m.wf = true)
    (ha : a + bs.length ≤ storeSize) :
    (tornWrite n m a bs).read a' = m.read a' ∨
      (a ≤ a' ∧ a' < a + bs.length ∧ (tornWrite n m a bs).read a' = bs.getD (a' - a) 0) := by
  induction bs generalizing m a with
  | nil => exact .inl rfl
  | cons b bs ih =>
    simp only [List.length_cons] at ha ⊢
    have hw : (if Config.byteTook n a then m.write a b else m).wf = true := by
      split
      · exact Memory.wf_write b h (by omega)
      · exact h
    have hr : Memory.read (if Config.byteTook n a then m.write a b else m) a' = m.read a' ∨
        (a' = a ∧ Memory.read (if Config.byteTook n a then m.write a b else m) a' = b) := by
      split
      · rw [Memory.read_write b a' h]
        by_cases e : a' = a
        · exact .inr ⟨e, if_pos e⟩
        · exact .inl (if_neg e)
      · exact .inl rfl
    have e : tornWrite n m a (b :: bs) = tornWrite n (if Config.byteTook n a then m.write a b else m) (a + 1) bs := rfl
    have hlen : a + 1 + bs.length ≤ storeSize := by omega
    rw [e]
    obtain hi | ⟨h1, h2, h3⟩ := ih hw hlen
    · obtain hr | ⟨rfl, hr⟩ := hr
      · exact .inl (hi.trans hr)
      · exact .inr ⟨by omega, by omega, by rw [hi, hr]; simp⟩
    · exact .inr ⟨by omega, by omega, by rw [h3, show a' - a = (a' - (a + 1)) + 1 by omega]; simp⟩

/-- One byte after a block is erased. -/
theorem read_eraseBlock {m : Memory} {block : Nat} (a' : Nat) (h : m.wf = true) (hb : block < 16) :
    (eraseBlock m block).read a' = if a' / 64 = block then erasedByte else m.read a' := by
  have hl : blockSize * block + (List.replicate blockSize erasedByte).length ≤ storeSize := by
    simp only [List.length_replicate, blockSize, storeSize]; omega
  unfold eraseBlock
  rw [Memory.read_writeMany a' h hl]
  simp only [List.length_replicate, blockSize]
  by_cases hd : a' / 64 = block
  · rw [if_pos (by omega), if_pos hd, List.getD_eq_getElem?_getD, List.getElem?_replicate, if_pos (by omega)]; rfl
  · rw [if_neg (by omega), if_neg hd]

/-- Consecutive bytes, one by one. -/
theorem Memory.readMany_eq (m : Memory) (a n : Nat) : m.readMany a n = (List.range n).map fun i => m.read (a + i) := by
  induction n generalizing a with
  | zero => rfl
  | succ n ih =>
    simp only [Memory.readMany, ih, List.range_succ_eq_map, List.map_cons, List.map_map, Nat.add_zero]
    congr 1
    refine List.map_congr_left fun i _ => ?_
    simp only [Function.comp, Nat.succ_eq_add_one]
    congr 1; omega

/-! ### The bounds of Table 11-1 -/

/-- Every block of a section is one of the store's sixteen. -/
theorem lastBlock_lt (sect : Nat) : lastBlock sect < 16 := by unfold lastBlock; split <;> omega

/-- A section's first block is not above its last. -/
theorem firstBlock_le_lastBlock (sect : Nat) : firstBlock sect ≤ lastBlock sect := by
  unfold firstBlock lastBlock; split <;> omega

/-- A page-bounded write that starts in the store stays in it (R175). -/
theorem write_within_page {a n : Nat} (ha : a < storeSize) (hn : n ≤ pageSize - a % pageSize) : a + n ≤ storeSize := by
  simp only [storeSize, pageSize] at *; omega

end Sys2Proof.Machine
end

