-- ==== Sys2Proof/Laws/State.lean ====
section
/-! SUPPORT. One lemma for each field under each update of the state: the records of pods, legs and ports, raised notices, the end of an event and a queued reply. -/

namespace Sys2Proof.Machine

variable (s : State) (p p' : PodId) (m m' : LegId) (q q' : PortId)

/-! ### Fields under `mapPods` -/

@[simp] theorem State.pending_mapPods (f : PodId → Pod → Pod) : (s.mapPods f).pending = s.pending := by simp only [State.mapPods]
@[simp] theorem State.legs_mapPods (f : PodId → Pod → Pod) : (s.mapPods f).legs = s.legs := by simp only [State.mapPods]
@[simp] theorem State.ports_mapPods (f : PodId → Pod → Pod) : (s.mapPods f).ports = s.ports := by simp only [State.mapPods]
@[simp] theorem State.tuning_mapPods (f : PodId → Pod → Pod) : (s.mapPods f).tuning = s.tuning := by simp only [State.mapPods]
@[simp] theorem State.privacy_mapPods (f : PodId → Pod → Pod) : (s.mapPods f).privacy = s.privacy := by simp only [State.mapPods]
@[simp] theorem State.talkers_mapPods (f : PodId → Pod → Pod) : (s.mapPods f).talkers = s.talkers := by simp only [State.mapPods]
@[simp] theorem State.frameCount_mapPods (f : PodId → Pod → Pod) : (s.mapPods f).frameCount = s.frameCount := by simp only [State.mapPods]
@[simp] theorem State.gateInput_mapPods (f : PodId → Pod → Pod) : (s.mapPods f).gateInput = s.gateInput := by simp only [State.mapPods]
@[simp] theorem State.mixInput_mapPods (f : PodId → Pod → Pod) : (s.mapPods f).mixInput = s.mixInput := by simp only [State.mapPods]
@[simp] theorem State.nomGain_mapPods (f : PodId → Pod → Pod) : (s.mapPods f).nomGain = s.nomGain := by simp only [State.mapPods]
@[simp] theorem State.reinforceGain_mapPods (f : PodId → Pod → Pod) : (s.mapPods f).reinforceGain = s.reinforceGain := by simp only [State.mapPods]
@[simp] theorem State.sync_mapPods (f : PodId → Pod → Pod) : (s.mapPods f).sync = s.sync := by simp only [State.mapPods]
@[simp] theorem State.watchdog_mapPods (f : PodId → Pod → Pod) : (s.mapPods f).watchdog = s.watchdog := by simp only [State.mapPods]
@[simp] theorem State.assembly_mapPods (f : PodId → Pod → Pod) : (s.mapPods f).assembly = s.assembly := by simp only [State.mapPods]
@[simp] theorem State.waiting_mapPods (f : PodId → Pod → Pod) : (s.mapPods f).waiting = s.waiting := by simp only [State.mapPods]
@[simp] theorem State.inProgress_mapPods (f : PodId → Pod → Pod) : (s.mapPods f).inProgress = s.inProgress := by simp only [State.mapPods]
@[simp] theorem State.lanesOut_mapPods (f : PodId → Pod → Pod) : (s.mapPods f).lanesOut = s.lanesOut := by simp only [State.mapPods]
@[simp] theorem State.underway_mapPods (f : PodId → Pod → Pod) : (s.mapPods f).underway = s.underway := by simp only [State.mapPods]
@[simp] theorem State.lastPolled_mapPods (f : PodId → Pod → Pod) : (s.mapPods f).lastPolled = s.lastPolled := by simp only [State.mapPods]
@[simp] theorem State.slot_mapPods (f : PodId → Pod → Pod) : (s.mapPods f).slot = s.slot := by simp only [State.mapPods]
@[simp] theorem State.audioClock_mapPods (f : PodId → Pod → Pod) : (s.mapPods f).audioClock = s.audioClock := by simp only [State.mapPods]
@[simp] theorem State.storeTimeout_mapPods (f : PodId → Pod → Pod) : (s.mapPods f).storeTimeout = s.storeTimeout := by simp only [State.mapPods]
@[simp] theorem State.store_mapPods (f : PodId → Pod → Pod) : (s.mapPods f).store = s.store := by simp only [State.mapPods]
@[simp] theorem State.commitMap_mapPods (f : PodId → Pod → Pod) : (s.mapPods f).commitMap = s.commitMap := by simp only [State.mapPods]
@[simp] theorem State.storeOp_mapPods (f : PodId → Pod → Pod) : (s.mapPods f).storeOp = s.storeOp := by simp only [State.mapPods]
@[simp] theorem State.lateStores_mapPods (f : PodId → Pod → Pod) : (s.mapPods f).lateStores = s.lateStores := by simp only [State.mapPods]
@[simp] theorem State.lateBlocks_mapPods (f : PodId → Pod → Pod) : (s.mapPods f).lateBlocks = s.lateBlocks := by simp only [State.mapPods]
@[simp] theorem State.lastResult_mapPods (f : PodId → Pod → Pod) : (s.mapPods f).lastResult = s.lastResult := by simp only [State.mapPods]
@[simp] theorem State.installer_mapPods (f : PodId → Pod → Pod) : (s.mapPods f).installer = s.installer := by simp only [State.mapPods]
@[simp] theorem State.freeCount_mapPods (f : PodId → Pod → Pod) : (s.mapPods f).freeCount = s.freeCount := by simp only [State.mapPods]

/-! ### Fields under `mapLegs` -/

@[simp] theorem State.pending_mapLegs (f : LegId → Leg → Leg) : (s.mapLegs f).pending = s.pending := by simp only [State.mapLegs]
@[simp] theorem State.pods_mapLegs (f : LegId → Leg → Leg) : (s.mapLegs f).pods = s.pods := by simp only [State.mapLegs]
@[simp] theorem State.ports_mapLegs (f : LegId → Leg → Leg) : (s.mapLegs f).ports = s.ports := by simp only [State.mapLegs]
@[simp] theorem State.tuning_mapLegs (f : LegId → Leg → Leg) : (s.mapLegs f).tuning = s.tuning := by simp only [State.mapLegs]
@[simp] theorem State.privacy_mapLegs (f : LegId → Leg → Leg) : (s.mapLegs f).privacy = s.privacy := by simp only [State.mapLegs]
@[simp] theorem State.talkers_mapLegs (f : LegId → Leg → Leg) : (s.mapLegs f).talkers = s.talkers := by simp only [State.mapLegs]
@[simp] theorem State.frameCount_mapLegs (f : LegId → Leg → Leg) : (s.mapLegs f).frameCount = s.frameCount := by simp only [State.mapLegs]
@[simp] theorem State.gateInput_mapLegs (f : LegId → Leg → Leg) : (s.mapLegs f).gateInput = s.gateInput := by simp only [State.mapLegs]
@[simp] theorem State.mixInput_mapLegs (f : LegId → Leg → Leg) : (s.mapLegs f).mixInput = s.mixInput := by simp only [State.mapLegs]
@[simp] theorem State.nomGain_mapLegs (f : LegId → Leg → Leg) : (s.mapLegs f).nomGain = s.nomGain := by simp only [State.mapLegs]
@[simp] theorem State.reinforceGain_mapLegs (f : LegId → Leg → Leg) : (s.mapLegs f).reinforceGain = s.reinforceGain := by simp only [State.mapLegs]
@[simp] theorem State.sync_mapLegs (f : LegId → Leg → Leg) : (s.mapLegs f).sync = s.sync := by simp only [State.mapLegs]
@[simp] theorem State.watchdog_mapLegs (f : LegId → Leg → Leg) : (s.mapLegs f).watchdog = s.watchdog := by simp only [State.mapLegs]
@[simp] theorem State.assembly_mapLegs (f : LegId → Leg → Leg) : (s.mapLegs f).assembly = s.assembly := by simp only [State.mapLegs]
@[simp] theorem State.waiting_mapLegs (f : LegId → Leg → Leg) : (s.mapLegs f).waiting = s.waiting := by simp only [State.mapLegs]
@[simp] theorem State.inProgress_mapLegs (f : LegId → Leg → Leg) : (s.mapLegs f).inProgress = s.inProgress := by simp only [State.mapLegs]
@[simp] theorem State.lanesOut_mapLegs (f : LegId → Leg → Leg) : (s.mapLegs f).lanesOut = s.lanesOut := by simp only [State.mapLegs]
@[simp] theorem State.underway_mapLegs (f : LegId → Leg → Leg) : (s.mapLegs f).underway = s.underway := by simp only [State.mapLegs]
@[simp] theorem State.lastPolled_mapLegs (f : LegId → Leg → Leg) : (s.mapLegs f).lastPolled = s.lastPolled := by simp only [State.mapLegs]
@[simp] theorem State.slot_mapLegs (f : LegId → Leg → Leg) : (s.mapLegs f).slot = s.slot := by simp only [State.mapLegs]
@[simp] theorem State.audioClock_mapLegs (f : LegId → Leg → Leg) : (s.mapLegs f).audioClock = s.audioClock := by simp only [State.mapLegs]
@[simp] theorem State.storeTimeout_mapLegs (f : LegId → Leg → Leg) : (s.mapLegs f).storeTimeout = s.storeTimeout := by simp only [State.mapLegs]
@[simp] theorem State.store_mapLegs (f : LegId → Leg → Leg) : (s.mapLegs f).store = s.store := by simp only [State.mapLegs]
@[simp] theorem State.commitMap_mapLegs (f : LegId → Leg → Leg) : (s.mapLegs f).commitMap = s.commitMap := by simp only [State.mapLegs]
@[simp] theorem State.storeOp_mapLegs (f : LegId → Leg → Leg) : (s.mapLegs f).storeOp = s.storeOp := by simp only [State.mapLegs]
@[simp] theorem State.lateStores_mapLegs (f : LegId → Leg → Leg) : (s.mapLegs f).lateStores = s.lateStores := by simp only [State.mapLegs]
@[simp] theorem State.lateBlocks_mapLegs (f : LegId → Leg → Leg) : (s.mapLegs f).lateBlocks = s.lateBlocks := by simp only [State.mapLegs]
@[simp] theorem State.lastResult_mapLegs (f : LegId → Leg → Leg) : (s.mapLegs f).lastResult = s.lastResult := by simp only [State.mapLegs]
@[simp] theorem State.installer_mapLegs (f : LegId → Leg → Leg) : (s.mapLegs f).installer = s.installer := by simp only [State.mapLegs]
@[simp] theorem State.freeCount_mapLegs (f : LegId → Leg → Leg) : (s.mapLegs f).freeCount = s.freeCount := by simp only [State.mapLegs]

/-! ### Fields under `mapPorts` -/

@[simp] theorem State.pending_mapPorts (f : PortId → Port → Port) : (s.mapPorts f).pending = s.pending := by simp only [State.mapPorts]
@[simp] theorem State.pods_mapPorts (f : PortId → Port → Port) : (s.mapPorts f).pods = s.pods := by simp only [State.mapPorts]
@[simp] theorem State.legs_mapPorts (f : PortId → Port → Port) : (s.mapPorts f).legs = s.legs := by simp only [State.mapPorts]
@[simp] theorem State.tuning_mapPorts (f : PortId → Port → Port) : (s.mapPorts f).tuning = s.tuning := by simp only [State.mapPorts]
@[simp] theorem State.privacy_mapPorts (f : PortId → Port → Port) : (s.mapPorts f).privacy = s.privacy := by simp only [State.mapPorts]
@[simp] theorem State.talkers_mapPorts (f : PortId → Port → Port) : (s.mapPorts f).talkers = s.talkers := by simp only [State.mapPorts]
@[simp] theorem State.frameCount_mapPorts (f : PortId → Port → Port) : (s.mapPorts f).frameCount = s.frameCount := by simp only [State.mapPorts]
@[simp] theorem State.gateInput_mapPorts (f : PortId → Port → Port) : (s.mapPorts f).gateInput = s.gateInput := by simp only [State.mapPorts]
@[simp] theorem State.mixInput_mapPorts (f : PortId → Port → Port) : (s.mapPorts f).mixInput = s.mixInput := by simp only [State.mapPorts]
@[simp] theorem State.nomGain_mapPorts (f : PortId → Port → Port) : (s.mapPorts f).nomGain = s.nomGain := by simp only [State.mapPorts]
@[simp] theorem State.reinforceGain_mapPorts (f : PortId → Port → Port) : (s.mapPorts f).reinforceGain = s.reinforceGain := by simp only [State.mapPorts]
@[simp] theorem State.sync_mapPorts (f : PortId → Port → Port) : (s.mapPorts f).sync = s.sync := by simp only [State.mapPorts]
@[simp] theorem State.watchdog_mapPorts (f : PortId → Port → Port) : (s.mapPorts f).watchdog = s.watchdog := by simp only [State.mapPorts]
@[simp] theorem State.assembly_mapPorts (f : PortId → Port → Port) : (s.mapPorts f).assembly = s.assembly := by simp only [State.mapPorts]
@[simp] theorem State.waiting_mapPorts (f : PortId → Port → Port) : (s.mapPorts f).waiting = s.waiting := by simp only [State.mapPorts]
@[simp] theorem State.inProgress_mapPorts (f : PortId → Port → Port) : (s.mapPorts f).inProgress = s.inProgress := by simp only [State.mapPorts]
@[simp] theorem State.lanesOut_mapPorts (f : PortId → Port → Port) : (s.mapPorts f).lanesOut = s.lanesOut := by simp only [State.mapPorts]
@[simp] theorem State.underway_mapPorts (f : PortId → Port → Port) : (s.mapPorts f).underway = s.underway := by simp only [State.mapPorts]
@[simp] theorem State.lastPolled_mapPorts (f : PortId → Port → Port) : (s.mapPorts f).lastPolled = s.lastPolled := by simp only [State.mapPorts]
@[simp] theorem State.slot_mapPorts (f : PortId → Port → Port) : (s.mapPorts f).slot = s.slot := by simp only [State.mapPorts]
@[simp] theorem State.audioClock_mapPorts (f : PortId → Port → Port) : (s.mapPorts f).audioClock = s.audioClock := by simp only [State.mapPorts]
@[simp] theorem State.storeTimeout_mapPorts (f : PortId → Port → Port) : (s.mapPorts f).storeTimeout = s.storeTimeout := by simp only [State.mapPorts]
@[simp] theorem State.store_mapPorts (f : PortId → Port → Port) : (s.mapPorts f).store = s.store := by simp only [State.mapPorts]
@[simp] theorem State.commitMap_mapPorts (f : PortId → Port → Port) : (s.mapPorts f).commitMap = s.commitMap := by simp only [State.mapPorts]
@[simp] theorem State.storeOp_mapPorts (f : PortId → Port → Port) : (s.mapPorts f).storeOp = s.storeOp := by simp only [State.mapPorts]
@[simp] theorem State.lateStores_mapPorts (f : PortId → Port → Port) : (s.mapPorts f).lateStores = s.lateStores := by simp only [State.mapPorts]
@[simp] theorem State.lateBlocks_mapPorts (f : PortId → Port → Port) : (s.mapPorts f).lateBlocks = s.lateBlocks := by simp only [State.mapPorts]
@[simp] theorem State.lastResult_mapPorts (f : PortId → Port → Port) : (s.mapPorts f).lastResult = s.lastResult := by simp only [State.mapPorts]
@[simp] theorem State.installer_mapPorts (f : PortId → Port → Port) : (s.mapPorts f).installer = s.installer := by simp only [State.mapPorts]
@[simp] theorem State.freeCount_mapPorts (f : PortId → Port → Port) : (s.mapPorts f).freeCount = s.freeCount := by simp only [State.mapPorts]

/-! ### Fields under `modPod` -/

@[simp] theorem State.pending_modPod (f : Pod → Pod) : (s.modPod p f).pending = s.pending := by simp only [State.modPod, State.pending_mapPods]
@[simp] theorem State.legs_modPod (f : Pod → Pod) : (s.modPod p f).legs = s.legs := by simp only [State.modPod, State.legs_mapPods]
@[simp] theorem State.ports_modPod (f : Pod → Pod) : (s.modPod p f).ports = s.ports := by simp only [State.modPod, State.ports_mapPods]
@[simp] theorem State.tuning_modPod (f : Pod → Pod) : (s.modPod p f).tuning = s.tuning := by simp only [State.modPod, State.tuning_mapPods]
@[simp] theorem State.privacy_modPod (f : Pod → Pod) : (s.modPod p f).privacy = s.privacy := by simp only [State.modPod, State.privacy_mapPods]
@[simp] theorem State.talkers_modPod (f : Pod → Pod) : (s.modPod p f).talkers = s.talkers := by simp only [State.modPod, State.talkers_mapPods]
@[simp] theorem State.frameCount_modPod (f : Pod → Pod) : (s.modPod p f).frameCount = s.frameCount := by simp only [State.modPod, State.frameCount_mapPods]
@[simp] theorem State.gateInput_modPod (f : Pod → Pod) : (s.modPod p f).gateInput = s.gateInput := by simp only [State.modPod, State.gateInput_mapPods]
@[simp] theorem State.mixInput_modPod (f : Pod → Pod) : (s.modPod p f).mixInput = s.mixInput := by simp only [State.modPod, State.mixInput_mapPods]
@[simp] theorem State.nomGain_modPod (f : Pod → Pod) : (s.modPod p f).nomGain = s.nomGain := by simp only [State.modPod, State.nomGain_mapPods]
@[simp] theorem State.reinforceGain_modPod (f : Pod → Pod) : (s.modPod p f).reinforceGain = s.reinforceGain := by simp only [State.modPod, State.reinforceGain_mapPods]
@[simp] theorem State.sync_modPod (f : Pod → Pod) : (s.modPod p f).sync = s.sync := by simp only [State.modPod, State.sync_mapPods]
@[simp] theorem State.watchdog_modPod (f : Pod → Pod) : (s.modPod p f).watchdog = s.watchdog := by simp only [State.modPod, State.watchdog_mapPods]
@[simp] theorem State.assembly_modPod (f : Pod → Pod) : (s.modPod p f).assembly = s.assembly := by simp only [State.modPod, State.assembly_mapPods]
@[simp] theorem State.waiting_modPod (f : Pod → Pod) : (s.modPod p f).waiting = s.waiting := by simp only [State.modPod, State.waiting_mapPods]
@[simp] theorem State.inProgress_modPod (f : Pod → Pod) : (s.modPod p f).inProgress = s.inProgress := by simp only [State.modPod, State.inProgress_mapPods]
@[simp] theorem State.lanesOut_modPod (f : Pod → Pod) : (s.modPod p f).lanesOut = s.lanesOut := by simp only [State.modPod, State.lanesOut_mapPods]
@[simp] theorem State.underway_modPod (f : Pod → Pod) : (s.modPod p f).underway = s.underway := by simp only [State.modPod, State.underway_mapPods]
@[simp] theorem State.lastPolled_modPod (f : Pod → Pod) : (s.modPod p f).lastPolled = s.lastPolled := by simp only [State.modPod, State.lastPolled_mapPods]
@[simp] theorem State.slot_modPod (f : Pod → Pod) : (s.modPod p f).slot = s.slot := by simp only [State.modPod, State.slot_mapPods]
@[simp] theorem State.audioClock_modPod (f : Pod → Pod) : (s.modPod p f).audioClock = s.audioClock := by simp only [State.modPod, State.audioClock_mapPods]
@[simp] theorem State.storeTimeout_modPod (f : Pod → Pod) : (s.modPod p f).storeTimeout = s.storeTimeout := by simp only [State.modPod, State.storeTimeout_mapPods]
@[simp] theorem State.store_modPod (f : Pod → Pod) : (s.modPod p f).store = s.store := by simp only [State.modPod, State.store_mapPods]
@[simp] theorem State.commitMap_modPod (f : Pod → Pod) : (s.modPod p f).commitMap = s.commitMap := by simp only [State.modPod, State.commitMap_mapPods]
@[simp] theorem State.storeOp_modPod (f : Pod → Pod) : (s.modPod p f).storeOp = s.storeOp := by simp only [State.modPod, State.storeOp_mapPods]
@[simp] theorem State.lateStores_modPod (f : Pod → Pod) : (s.modPod p f).lateStores = s.lateStores := by simp only [State.modPod, State.lateStores_mapPods]
@[simp] theorem State.lateBlocks_modPod (f : Pod → Pod) : (s.modPod p f).lateBlocks = s.lateBlocks := by simp only [State.modPod, State.lateBlocks_mapPods]
@[simp] theorem State.lastResult_modPod (f : Pod → Pod) : (s.modPod p f).lastResult = s.lastResult := by simp only [State.modPod, State.lastResult_mapPods]
@[simp] theorem State.installer_modPod (f : Pod → Pod) : (s.modPod p f).installer = s.installer := by simp only [State.modPod, State.installer_mapPods]
@[simp] theorem State.freeCount_modPod (f : Pod → Pod) : (s.modPod p f).freeCount = s.freeCount := by simp only [State.modPod, State.freeCount_mapPods]

/-! ### Fields under `modLeg` -/

@[simp] theorem State.pending_modLeg (f : Leg → Leg) : (s.modLeg m f).pending = s.pending := by simp only [State.modLeg, State.pending_mapLegs]
@[simp] theorem State.pods_modLeg (f : Leg → Leg) : (s.modLeg m f).pods = s.pods := by simp only [State.modLeg, State.pods_mapLegs]
@[simp] theorem State.ports_modLeg (f : Leg → Leg) : (s.modLeg m f).ports = s.ports := by simp only [State.modLeg, State.ports_mapLegs]
@[simp] theorem State.tuning_modLeg (f : Leg → Leg) : (s.modLeg m f).tuning = s.tuning := by simp only [State.modLeg, State.tuning_mapLegs]
@[simp] theorem State.privacy_modLeg (f : Leg → Leg) : (s.modLeg m f).privacy = s.privacy := by simp only [State.modLeg, State.privacy_mapLegs]
@[simp] theorem State.talkers_modLeg (f : Leg → Leg) : (s.modLeg m f).talkers = s.talkers := by simp only [State.modLeg, State.talkers_mapLegs]
@[simp] theorem State.frameCount_modLeg (f : Leg → Leg) : (s.modLeg m f).frameCount = s.frameCount := by simp only [State.modLeg, State.frameCount_mapLegs]
@[simp] theorem State.gateInput_modLeg (f : Leg → Leg) : (s.modLeg m f).gateInput = s.gateInput := by simp only [State.modLeg, State.gateInput_mapLegs]
@[simp] theorem State.mixInput_modLeg (f : Leg → Leg) : (s.modLeg m f).mixInput = s.mixInput := by simp only [State.modLeg, State.mixInput_mapLegs]
@[simp] theorem State.nomGain_modLeg (f : Leg → Leg) : (s.modLeg m f).nomGain = s.nomGain := by simp only [State.modLeg, State.nomGain_mapLegs]
@[simp] theorem State.reinforceGain_modLeg (f : Leg → Leg) : (s.modLeg m f).reinforceGain = s.reinforceGain := by simp only [State.modLeg, State.reinforceGain_mapLegs]
@[simp] theorem State.sync_modLeg (f : Leg → Leg) : (s.modLeg m f).sync = s.sync := by simp only [State.modLeg, State.sync_mapLegs]
@[simp] theorem State.watchdog_modLeg (f : Leg → Leg) : (s.modLeg m f).watchdog = s.watchdog := by simp only [State.modLeg, State.watchdog_mapLegs]
@[simp] theorem State.assembly_modLeg (f : Leg → Leg) : (s.modLeg m f).assembly = s.assembly := by simp only [State.modLeg, State.assembly_mapLegs]
@[simp] theorem State.waiting_modLeg (f : Leg → Leg) : (s.modLeg m f).waiting = s.waiting := by simp only [State.modLeg, State.waiting_mapLegs]
@[simp] theorem State.inProgress_modLeg (f : Leg → Leg) : (s.modLeg m f).inProgress = s.inProgress := by simp only [State.modLeg, State.inProgress_mapLegs]
@[simp] theorem State.lanesOut_modLeg (f : Leg → Leg) : (s.modLeg m f).lanesOut = s.lanesOut := by simp only [State.modLeg, State.lanesOut_mapLegs]
@[simp] theorem State.underway_modLeg (f : Leg → Leg) : (s.modLeg m f).underway = s.underway := by simp only [State.modLeg, State.underway_mapLegs]
@[simp] theorem State.lastPolled_modLeg (f : Leg → Leg) : (s.modLeg m f).lastPolled = s.lastPolled := by simp only [State.modLeg, State.lastPolled_mapLegs]
@[simp] theorem State.slot_modLeg (f : Leg → Leg) : (s.modLeg m f).slot = s.slot := by simp only [State.modLeg, State.slot_mapLegs]
@[simp] theorem State.audioClock_modLeg (f : Leg → Leg) : (s.modLeg m f).audioClock = s.audioClock := by simp only [State.modLeg, State.audioClock_mapLegs]
@[simp] theorem State.storeTimeout_modLeg (f : Leg → Leg) : (s.modLeg m f).storeTimeout = s.storeTimeout := by simp only [State.modLeg, State.storeTimeout_mapLegs]
@[simp] theorem State.store_modLeg (f : Leg → Leg) : (s.modLeg m f).store = s.store := by simp only [State.modLeg, State.store_mapLegs]
@[simp] theorem State.commitMap_modLeg (f : Leg → Leg) : (s.modLeg m f).commitMap = s.commitMap := by simp only [State.modLeg, State.commitMap_mapLegs]
@[simp] theorem State.storeOp_modLeg (f : Leg → Leg) : (s.modLeg m f).storeOp = s.storeOp := by simp only [State.modLeg, State.storeOp_mapLegs]
@[simp] theorem State.lateStores_modLeg (f : Leg → Leg) : (s.modLeg m f).lateStores = s.lateStores := by simp only [State.modLeg, State.lateStores_mapLegs]
@[simp] theorem State.lateBlocks_modLeg (f : Leg → Leg) : (s.modLeg m f).lateBlocks = s.lateBlocks := by simp only [State.modLeg, State.lateBlocks_mapLegs]
@[simp] theorem State.lastResult_modLeg (f : Leg → Leg) : (s.modLeg m f).lastResult = s.lastResult := by simp only [State.modLeg, State.lastResult_mapLegs]
@[simp] theorem State.installer_modLeg (f : Leg → Leg) : (s.modLeg m f).installer = s.installer := by simp only [State.modLeg, State.installer_mapLegs]
@[simp] theorem State.freeCount_modLeg (f : Leg → Leg) : (s.modLeg m f).freeCount = s.freeCount := by simp only [State.modLeg, State.freeCount_mapLegs]

/-! ### Fields under `modPort` -/

@[simp] theorem State.pending_modPort (f : Port → Port) : (s.modPort q f).pending = s.pending := by simp only [State.modPort, State.pending_mapPorts]
@[simp] theorem State.pods_modPort (f : Port → Port) : (s.modPort q f).pods = s.pods := by simp only [State.modPort, State.pods_mapPorts]
@[simp] theorem State.legs_modPort (f : Port → Port) : (s.modPort q f).legs = s.legs := by simp only [State.modPort, State.legs_mapPorts]
@[simp] theorem State.tuning_modPort (f : Port → Port) : (s.modPort q f).tuning = s.tuning := by simp only [State.modPort, State.tuning_mapPorts]
@[simp] theorem State.privacy_modPort (f : Port → Port) : (s.modPort q f).privacy = s.privacy := by simp only [State.modPort, State.privacy_mapPorts]
@[simp] theorem State.talkers_modPort (f : Port → Port) : (s.modPort q f).talkers = s.talkers := by simp only [State.modPort, State.talkers_mapPorts]
@[simp] theorem State.frameCount_modPort (f : Port → Port) : (s.modPort q f).frameCount = s.frameCount := by simp only [State.modPort, State.frameCount_mapPorts]
@[simp] theorem State.gateInput_modPort (f : Port → Port) : (s.modPort q f).gateInput = s.gateInput := by simp only [State.modPort, State.gateInput_mapPorts]
@[simp] theorem State.mixInput_modPort (f : Port → Port) : (s.modPort q f).mixInput = s.mixInput := by simp only [State.modPort, State.mixInput_mapPorts]
@[simp] theorem State.nomGain_modPort (f : Port → Port) : (s.modPort q f).nomGain = s.nomGain := by simp only [State.modPort, State.nomGain_mapPorts]
@[simp] theorem State.reinforceGain_modPort (f : Port → Port) : (s.modPort q f).reinforceGain = s.reinforceGain := by simp only [State.modPort, State.reinforceGain_mapPorts]
@[simp] theorem State.sync_modPort (f : Port → Port) : (s.modPort q f).sync = s.sync := by simp only [State.modPort, State.sync_mapPorts]
@[simp] theorem State.watchdog_modPort (f : Port → Port) : (s.modPort q f).watchdog = s.watchdog := by simp only [State.modPort, State.watchdog_mapPorts]
@[simp] theorem State.assembly_modPort (f : Port → Port) : (s.modPort q f).assembly = s.assembly := by simp only [State.modPort, State.assembly_mapPorts]
@[simp] theorem State.waiting_modPort (f : Port → Port) : (s.modPort q f).waiting = s.waiting := by simp only [State.modPort, State.waiting_mapPorts]
@[simp] theorem State.inProgress_modPort (f : Port → Port) : (s.modPort q f).inProgress = s.inProgress := by simp only [State.modPort, State.inProgress_mapPorts]
@[simp] theorem State.lanesOut_modPort (f : Port → Port) : (s.modPort q f).lanesOut = s.lanesOut := by simp only [State.modPort, State.lanesOut_mapPorts]
@[simp] theorem State.underway_modPort (f : Port → Port) : (s.modPort q f).underway = s.underway := by simp only [State.modPort, State.underway_mapPorts]
@[simp] theorem State.lastPolled_modPort (f : Port → Port) : (s.modPort q f).lastPolled = s.lastPolled := by simp only [State.modPort, State.lastPolled_mapPorts]
@[simp] theorem State.slot_modPort (f : Port → Port) : (s.modPort q f).slot = s.slot := by simp only [State.modPort, State.slot_mapPorts]
@[simp] theorem State.audioClock_modPort (f : Port → Port) : (s.modPort q f).audioClock = s.audioClock := by simp only [State.modPort, State.audioClock_mapPorts]
@[simp] theorem State.storeTimeout_modPort (f : Port → Port) : (s.modPort q f).storeTimeout = s.storeTimeout := by simp only [State.modPort, State.storeTimeout_mapPorts]
@[simp] theorem State.store_modPort (f : Port → Port) : (s.modPort q f).store = s.store := by simp only [State.modPort, State.store_mapPorts]
@[simp] theorem State.commitMap_modPort (f : Port → Port) : (s.modPort q f).commitMap = s.commitMap := by simp only [State.modPort, State.commitMap_mapPorts]
@[simp] theorem State.storeOp_modPort (f : Port → Port) : (s.modPort q f).storeOp = s.storeOp := by simp only [State.modPort, State.storeOp_mapPorts]
@[simp] theorem State.lateStores_modPort (f : Port → Port) : (s.modPort q f).lateStores = s.lateStores := by simp only [State.modPort, State.lateStores_mapPorts]
@[simp] theorem State.lateBlocks_modPort (f : Port → Port) : (s.modPort q f).lateBlocks = s.lateBlocks := by simp only [State.modPort, State.lateBlocks_mapPorts]
@[simp] theorem State.lastResult_modPort (f : Port → Port) : (s.modPort q f).lastResult = s.lastResult := by simp only [State.modPort, State.lastResult_mapPorts]
@[simp] theorem State.installer_modPort (f : Port → Port) : (s.modPort q f).installer = s.installer := by simp only [State.modPort, State.installer_mapPorts]
@[simp] theorem State.freeCount_modPort (f : Port → Port) : (s.modPort q f).freeCount = s.freeCount := by simp only [State.modPort, State.freeCount_mapPorts]

/-! ### Fields under `raise` -/

@[simp] theorem State.pending_raise (c : Category) : (s.raise c).pending = s.pending := by simp only [State.raise, State.pending_mapPorts]
@[simp] theorem State.pods_raise (c : Category) : (s.raise c).pods = s.pods := by simp only [State.raise, State.pods_mapPorts]
@[simp] theorem State.legs_raise (c : Category) : (s.raise c).legs = s.legs := by simp only [State.raise, State.legs_mapPorts]
@[simp] theorem State.tuning_raise (c : Category) : (s.raise c).tuning = s.tuning := by simp only [State.raise, State.tuning_mapPorts]
@[simp] theorem State.privacy_raise (c : Category) : (s.raise c).privacy = s.privacy := by simp only [State.raise, State.privacy_mapPorts]
@[simp] theorem State.talkers_raise (c : Category) : (s.raise c).talkers = s.talkers := by simp only [State.raise, State.talkers_mapPorts]
@[simp] theorem State.frameCount_raise (c : Category) : (s.raise c).frameCount = s.frameCount := by simp only [State.raise, State.frameCount_mapPorts]
@[simp] theorem State.gateInput_raise (c : Category) : (s.raise c).gateInput = s.gateInput := by simp only [State.raise, State.gateInput_mapPorts]
@[simp] theorem State.mixInput_raise (c : Category) : (s.raise c).mixInput = s.mixInput := by simp only [State.raise, State.mixInput_mapPorts]
@[simp] theorem State.nomGain_raise (c : Category) : (s.raise c).nomGain = s.nomGain := by simp only [State.raise, State.nomGain_mapPorts]
@[simp] theorem State.reinforceGain_raise (c : Category) : (s.raise c).reinforceGain = s.reinforceGain := by simp only [State.raise, State.reinforceGain_mapPorts]
@[simp] theorem State.sync_raise (c : Category) : (s.raise c).sync = s.sync := by simp only [State.raise, State.sync_mapPorts]
@[simp] theorem State.watchdog_raise (c : Category) : (s.raise c).watchdog = s.watchdog := by simp only [State.raise, State.watchdog_mapPorts]
@[simp] theorem State.assembly_raise (c : Category) : (s.raise c).assembly = s.assembly := by simp only [State.raise, State.assembly_mapPorts]
@[simp] theorem State.waiting_raise (c : Category) : (s.raise c).waiting = s.waiting := by simp only [State.raise, State.waiting_mapPorts]
@[simp] theorem State.inProgress_raise (c : Category) : (s.raise c).inProgress = s.inProgress := by simp only [State.raise, State.inProgress_mapPorts]
@[simp] theorem State.lanesOut_raise (c : Category) : (s.raise c).lanesOut = s.lanesOut := by simp only [State.raise, State.lanesOut_mapPorts]
@[simp] theorem State.underway_raise (c : Category) : (s.raise c).underway = s.underway := by simp only [State.raise, State.underway_mapPorts]
@[simp] theorem State.lastPolled_raise (c : Category) : (s.raise c).lastPolled = s.lastPolled := by simp only [State.raise, State.lastPolled_mapPorts]
@[simp] theorem State.slot_raise (c : Category) : (s.raise c).slot = s.slot := by simp only [State.raise, State.slot_mapPorts]
@[simp] theorem State.audioClock_raise (c : Category) : (s.raise c).audioClock = s.audioClock := by simp only [State.raise, State.audioClock_mapPorts]
@[simp] theorem State.storeTimeout_raise (c : Category) : (s.raise c).storeTimeout = s.storeTimeout := by simp only [State.raise, State.storeTimeout_mapPorts]
@[simp] theorem State.store_raise (c : Category) : (s.raise c).store = s.store := by simp only [State.raise, State.store_mapPorts]
@[simp] theorem State.commitMap_raise (c : Category) : (s.raise c).commitMap = s.commitMap := by simp only [State.raise, State.commitMap_mapPorts]
@[simp] theorem State.storeOp_raise (c : Category) : (s.raise c).storeOp = s.storeOp := by simp only [State.raise, State.storeOp_mapPorts]
@[simp] theorem State.lateStores_raise (c : Category) : (s.raise c).lateStores = s.lateStores := by simp only [State.raise, State.lateStores_mapPorts]
@[simp] theorem State.lateBlocks_raise (c : Category) : (s.raise c).lateBlocks = s.lateBlocks := by simp only [State.raise, State.lateBlocks_mapPorts]
@[simp] theorem State.lastResult_raise (c : Category) : (s.raise c).lastResult = s.lastResult := by simp only [State.raise, State.lastResult_mapPorts]
@[simp] theorem State.installer_raise (c : Category) : (s.raise c).installer = s.installer := by simp only [State.raise, State.installer_mapPorts]
@[simp] theorem State.freeCount_raise (c : Category) : (s.raise c).freeCount = s.freeCount := by simp only [State.raise, State.freeCount_mapPorts]

/-! ### Fields under `raiseIf` -/

@[simp] theorem State.pending_raiseIf (b : Bool) (c : Category) : (s.raiseIf b c).pending = s.pending := by cases b <;> simp only [State.raiseIf, State.pending_raise, if_true, Bool.false_eq_true, if_false]
@[simp] theorem State.pods_raiseIf (b : Bool) (c : Category) : (s.raiseIf b c).pods = s.pods := by cases b <;> simp only [State.raiseIf, State.pods_raise, if_true, Bool.false_eq_true, if_false]
@[simp] theorem State.legs_raiseIf (b : Bool) (c : Category) : (s.raiseIf b c).legs = s.legs := by cases b <;> simp only [State.raiseIf, State.legs_raise, if_true, Bool.false_eq_true, if_false]
@[simp] theorem State.tuning_raiseIf (b : Bool) (c : Category) : (s.raiseIf b c).tuning = s.tuning := by cases b <;> simp only [State.raiseIf, State.tuning_raise, if_true, Bool.false_eq_true, if_false]
@[simp] theorem State.privacy_raiseIf (b : Bool) (c : Category) : (s.raiseIf b c).privacy = s.privacy := by cases b <;> simp only [State.raiseIf, State.privacy_raise, if_true, Bool.false_eq_true, if_false]
@[simp] theorem State.talkers_raiseIf (b : Bool) (c : Category) : (s.raiseIf b c).talkers = s.talkers := by cases b <;> simp only [State.raiseIf, State.talkers_raise, if_true, Bool.false_eq_true, if_false]
@[simp] theorem State.frameCount_raiseIf (b : Bool) (c : Category) : (s.raiseIf b c).frameCount = s.frameCount := by cases b <;> simp only [State.raiseIf, State.frameCount_raise, if_true, Bool.false_eq_true, if_false]
@[simp] theorem State.gateInput_raiseIf (b : Bool) (c : Category) : (s.raiseIf b c).gateInput = s.gateInput := by cases b <;> simp only [State.raiseIf, State.gateInput_raise, if_true, Bool.false_eq_true, if_false]
@[simp] theorem State.mixInput_raiseIf (b : Bool) (c : Category) : (s.raiseIf b c).mixInput = s.mixInput := by cases b <;> simp only [State.raiseIf, State.mixInput_raise, if_true, Bool.false_eq_true, if_false]
@[simp] theorem State.nomGain_raiseIf (b : Bool) (c : Category) : (s.raiseIf b c).nomGain = s.nomGain := by cases b <;> simp only [State.raiseIf, State.nomGain_raise, if_true, Bool.false_eq_true, if_false]
@[simp] theorem State.reinforceGain_raiseIf (b : Bool) (c : Category) : (s.raiseIf b c).reinforceGain = s.reinforceGain := by cases b <;> simp only [State.raiseIf, State.reinforceGain_raise, if_true, Bool.false_eq_true, if_false]
@[simp] theorem State.sync_raiseIf (b : Bool) (c : Category) : (s.raiseIf b c).sync = s.sync := by cases b <;> simp only [State.raiseIf, State.sync_raise, if_true, Bool.false_eq_true, if_false]
@[simp] theorem State.watchdog_raiseIf (b : Bool) (c : Category) : (s.raiseIf b c).watchdog = s.watchdog := by cases b <;> simp only [State.raiseIf, State.watchdog_raise, if_true, Bool.false_eq_true, if_false]
@[simp] theorem State.assembly_raiseIf (b : Bool) (c : Category) : (s.raiseIf b c).assembly = s.assembly := by cases b <;> simp only [State.raiseIf, State.assembly_raise, if_true, Bool.false_eq_true, if_false]
@[simp] theorem State.waiting_raiseIf (b : Bool) (c : Category) : (s.raiseIf b c).waiting = s.waiting := by cases b <;> simp only [State.raiseIf, State.waiting_raise, if_true, Bool.false_eq_true, if_false]
@[simp] theorem State.inProgress_raiseIf (b : Bool) (c : Category) : (s.raiseIf b c).inProgress = s.inProgress := by cases b <;> simp only [State.raiseIf, State.inProgress_raise, if_true, Bool.false_eq_true, if_false]
@[simp] theorem State.lanesOut_raiseIf (b : Bool) (c : Category) : (s.raiseIf b c).lanesOut = s.lanesOut := by cases b <;> simp only [State.raiseIf, State.lanesOut_raise, if_true, Bool.false_eq_true, if_false]
@[simp] theorem State.underway_raiseIf (b : Bool) (c : Category) : (s.raiseIf b c).underway = s.underway := by cases b <;> simp only [State.raiseIf, State.underway_raise, if_true, Bool.false_eq_true, if_false]
@[simp] theorem State.lastPolled_raiseIf (b : Bool) (c : Category) : (s.raiseIf b c).lastPolled = s.lastPolled := by cases b <;> simp only [State.raiseIf, State.lastPolled_raise, if_true, Bool.false_eq_true, if_false]
@[simp] theorem State.slot_raiseIf (b : Bool) (c : Category) : (s.raiseIf b c).slot = s.slot := by cases b <;> simp only [State.raiseIf, State.slot_raise, if_true, Bool.false_eq_true, if_false]
@[simp] theorem State.audioClock_raiseIf (b : Bool) (c : Category) : (s.raiseIf b c).audioClock = s.audioClock := by cases b <;> simp only [State.raiseIf, State.audioClock_raise, if_true, Bool.false_eq_true, if_false]
@[simp] theorem State.storeTimeout_raiseIf (b : Bool) (c : Category) : (s.raiseIf b c).storeTimeout = s.storeTimeout := by cases b <;> simp only [State.raiseIf, State.storeTimeout_raise, if_true, Bool.false_eq_true, if_false]
@[simp] theorem State.store_raiseIf (b : Bool) (c : Category) : (s.raiseIf b c).store = s.store := by cases b <;> simp only [State.raiseIf, State.store_raise, if_true, Bool.false_eq_true, if_false]
@[simp] theorem State.commitMap_raiseIf (b : Bool) (c : Category) : (s.raiseIf b c).commitMap = s.commitMap := by cases b <;> simp only [State.raiseIf, State.commitMap_raise, if_true, Bool.false_eq_true, if_false]
@[simp] theorem State.storeOp_raiseIf (b : Bool) (c : Category) : (s.raiseIf b c).storeOp = s.storeOp := by cases b <;> simp only [State.raiseIf, State.storeOp_raise, if_true, Bool.false_eq_true, if_false]
@[simp] theorem State.lateStores_raiseIf (b : Bool) (c : Category) : (s.raiseIf b c).lateStores = s.lateStores := by cases b <;> simp only [State.raiseIf, State.lateStores_raise, if_true, Bool.false_eq_true, if_false]
@[simp] theorem State.lateBlocks_raiseIf (b : Bool) (c : Category) : (s.raiseIf b c).lateBlocks = s.lateBlocks := by cases b <;> simp only [State.raiseIf, State.lateBlocks_raise, if_true, Bool.false_eq_true, if_false]
@[simp] theorem State.lastResult_raiseIf (b : Bool) (c : Category) : (s.raiseIf b c).lastResult = s.lastResult := by cases b <;> simp only [State.raiseIf, State.lastResult_raise, if_true, Bool.false_eq_true, if_false]
@[simp] theorem State.installer_raiseIf (b : Bool) (c : Category) : (s.raiseIf b c).installer = s.installer := by cases b <;> simp only [State.raiseIf, State.installer_raise, if_true, Bool.false_eq_true, if_false]
@[simp] theorem State.freeCount_raiseIf (b : Bool) (c : Category) : (s.raiseIf b c).freeCount = s.freeCount := by cases b <;> simp only [State.raiseIf, State.freeCount_raise, if_true, Bool.false_eq_true, if_false]

/-! ### Fields under `raisePortsOthers` -/

@[simp] theorem State.pending_raisePortsOthers : (s.raisePortsOthers q).pending = s.pending := by simp only [State.raisePortsOthers, State.pending_mapPorts]
@[simp] theorem State.pods_raisePortsOthers : (s.raisePortsOthers q).pods = s.pods := by simp only [State.raisePortsOthers, State.pods_mapPorts]
@[simp] theorem State.legs_raisePortsOthers : (s.raisePortsOthers q).legs = s.legs := by simp only [State.raisePortsOthers, State.legs_mapPorts]
@[simp] theorem State.tuning_raisePortsOthers : (s.raisePortsOthers q).tuning = s.tuning := by simp only [State.raisePortsOthers, State.tuning_mapPorts]
@[simp] theorem State.privacy_raisePortsOthers : (s.raisePortsOthers q).privacy = s.privacy := by simp only [State.raisePortsOthers, State.privacy_mapPorts]
@[simp] theorem State.talkers_raisePortsOthers : (s.raisePortsOthers q).talkers = s.talkers := by simp only [State.raisePortsOthers, State.talkers_mapPorts]
@[simp] theorem State.frameCount_raisePortsOthers : (s.raisePortsOthers q).frameCount = s.frameCount := by simp only [State.raisePortsOthers, State.frameCount_mapPorts]
@[simp] theorem State.gateInput_raisePortsOthers : (s.raisePortsOthers q).gateInput = s.gateInput := by simp only [State.raisePortsOthers, State.gateInput_mapPorts]
@[simp] theorem State.mixInput_raisePortsOthers : (s.raisePortsOthers q).mixInput = s.mixInput := by simp only [State.raisePortsOthers, State.mixInput_mapPorts]
@[simp] theorem State.nomGain_raisePortsOthers : (s.raisePortsOthers q).nomGain = s.nomGain := by simp only [State.raisePortsOthers, State.nomGain_mapPorts]
@[simp] theorem State.reinforceGain_raisePortsOthers : (s.raisePortsOthers q).reinforceGain = s.reinforceGain := by simp only [State.raisePortsOthers, State.reinforceGain_mapPorts]
@[simp] theorem State.sync_raisePortsOthers : (s.raisePortsOthers q).sync = s.sync := by simp only [State.raisePortsOthers, State.sync_mapPorts]
@[simp] theorem State.watchdog_raisePortsOthers : (s.raisePortsOthers q).watchdog = s.watchdog := by simp only [State.raisePortsOthers, State.watchdog_mapPorts]
@[simp] theorem State.assembly_raisePortsOthers : (s.raisePortsOthers q).assembly = s.assembly := by simp only [State.raisePortsOthers, State.assembly_mapPorts]
@[simp] theorem State.waiting_raisePortsOthers : (s.raisePortsOthers q).waiting = s.waiting := by simp only [State.raisePortsOthers, State.waiting_mapPorts]
@[simp] theorem State.inProgress_raisePortsOthers : (s.raisePortsOthers q).inProgress = s.inProgress := by simp only [State.raisePortsOthers, State.inProgress_mapPorts]
@[simp] theorem State.lanesOut_raisePortsOthers : (s.raisePortsOthers q).lanesOut = s.lanesOut := by simp only [State.raisePortsOthers, State.lanesOut_mapPorts]
@[simp] theorem State.underway_raisePortsOthers : (s.raisePortsOthers q).underway = s.underway := by simp only [State.raisePortsOthers, State.underway_mapPorts]
@[simp] theorem State.lastPolled_raisePortsOthers : (s.raisePortsOthers q).lastPolled = s.lastPolled := by simp only [State.raisePortsOthers, State.lastPolled_mapPorts]
@[simp] theorem State.slot_raisePortsOthers : (s.raisePortsOthers q).slot = s.slot := by simp only [State.raisePortsOthers, State.slot_mapPorts]
@[simp] theorem State.audioClock_raisePortsOthers : (s.raisePortsOthers q).audioClock = s.audioClock := by simp only [State.raisePortsOthers, State.audioClock_mapPorts]
@[simp] theorem State.storeTimeout_raisePortsOthers : (s.raisePortsOthers q).storeTimeout = s.storeTimeout := by simp only [State.raisePortsOthers, State.storeTimeout_mapPorts]
@[simp] theorem State.store_raisePortsOthers : (s.raisePortsOthers q).store = s.store := by simp only [State.raisePortsOthers, State.store_mapPorts]
@[simp] theorem State.commitMap_raisePortsOthers : (s.raisePortsOthers q).commitMap = s.commitMap := by simp only [State.raisePortsOthers, State.commitMap_mapPorts]
@[simp] theorem State.storeOp_raisePortsOthers : (s.raisePortsOthers q).storeOp = s.storeOp := by simp only [State.raisePortsOthers, State.storeOp_mapPorts]
@[simp] theorem State.lateStores_raisePortsOthers : (s.raisePortsOthers q).lateStores = s.lateStores := by simp only [State.raisePortsOthers, State.lateStores_mapPorts]
@[simp] theorem State.lateBlocks_raisePortsOthers : (s.raisePortsOthers q).lateBlocks = s.lateBlocks := by simp only [State.raisePortsOthers, State.lateBlocks_mapPorts]
@[simp] theorem State.lastResult_raisePortsOthers : (s.raisePortsOthers q).lastResult = s.lastResult := by simp only [State.raisePortsOthers, State.lastResult_mapPorts]
@[simp] theorem State.installer_raisePortsOthers : (s.raisePortsOthers q).installer = s.installer := by simp only [State.raisePortsOthers, State.installer_mapPorts]
@[simp] theorem State.freeCount_raisePortsOthers : (s.raisePortsOthers q).freeCount = s.freeCount := by simp only [State.raisePortsOthers, State.freeCount_mapPorts]

/-! ### Fields under `queueReply` -/

@[simp] theorem State.pending_queueReply (r : Reply) : (s.queueReply q r).pending = s.pending := by simp only [State.queueReply, State.pending_modPort]
@[simp] theorem State.pods_queueReply (r : Reply) : (s.queueReply q r).pods = s.pods := by simp only [State.queueReply, State.pods_modPort]
@[simp] theorem State.legs_queueReply (r : Reply) : (s.queueReply q r).legs = s.legs := by simp only [State.queueReply, State.legs_modPort]
@[simp] theorem State.tuning_queueReply (r : Reply) : (s.queueReply q r).tuning = s.tuning := by simp only [State.queueReply, State.tuning_modPort]
@[simp] theorem State.privacy_queueReply (r : Reply) : (s.queueReply q r).privacy = s.privacy := by simp only [State.queueReply, State.privacy_modPort]
@[simp] theorem State.talkers_queueReply (r : Reply) : (s.queueReply q r).talkers = s.talkers := by simp only [State.queueReply, State.talkers_modPort]
@[simp] theorem State.frameCount_queueReply (r : Reply) : (s.queueReply q r).frameCount = s.frameCount := by simp only [State.queueReply, State.frameCount_modPort]
@[simp] theorem State.gateInput_queueReply (r : Reply) : (s.queueReply q r).gateInput = s.gateInput := by simp only [State.queueReply, State.gateInput_modPort]
@[simp] theorem State.mixInput_queueReply (r : Reply) : (s.queueReply q r).mixInput = s.mixInput := by simp only [State.queueReply, State.mixInput_modPort]
@[simp] theorem State.nomGain_queueReply (r : Reply) : (s.queueReply q r).nomGain = s.nomGain := by simp only [State.queueReply, State.nomGain_modPort]
@[simp] theorem State.reinforceGain_queueReply (r : Reply) : (s.queueReply q r).reinforceGain = s.reinforceGain := by simp only [State.queueReply, State.reinforceGain_modPort]
@[simp] theorem State.sync_queueReply (r : Reply) : (s.queueReply q r).sync = s.sync := by simp only [State.queueReply, State.sync_modPort]
@[simp] theorem State.watchdog_queueReply (r : Reply) : (s.queueReply q r).watchdog = s.watchdog := by simp only [State.queueReply, State.watchdog_modPort]
@[simp] theorem State.assembly_queueReply (r : Reply) : (s.queueReply q r).assembly = s.assembly := by simp only [State.queueReply, State.assembly_modPort]
@[simp] theorem State.waiting_queueReply (r : Reply) : (s.queueReply q r).waiting = s.waiting := by simp only [State.queueReply, State.waiting_modPort]
@[simp] theorem State.inProgress_queueReply (r : Reply) : (s.queueReply q r).inProgress = s.inProgress := by simp only [State.queueReply, State.inProgress_modPort]
@[simp] theorem State.lanesOut_queueReply (r : Reply) : (s.queueReply q r).lanesOut = s.lanesOut := by simp only [State.queueReply, State.lanesOut_modPort]
@[simp] theorem State.underway_queueReply (r : Reply) : (s.queueReply q r).underway = s.underway := by simp only [State.queueReply, State.underway_modPort]
@[simp] theorem State.lastPolled_queueReply (r : Reply) : (s.queueReply q r).lastPolled = s.lastPolled := by simp only [State.queueReply, State.lastPolled_modPort]
@[simp] theorem State.slot_queueReply (r : Reply) : (s.queueReply q r).slot = s.slot := by simp only [State.queueReply, State.slot_modPort]
@[simp] theorem State.audioClock_queueReply (r : Reply) : (s.queueReply q r).audioClock = s.audioClock := by simp only [State.queueReply, State.audioClock_modPort]
@[simp] theorem State.storeTimeout_queueReply (r : Reply) : (s.queueReply q r).storeTimeout = s.storeTimeout := by simp only [State.queueReply, State.storeTimeout_modPort]
@[simp] theorem State.store_queueReply (r : Reply) : (s.queueReply q r).store = s.store := by simp only [State.queueReply, State.store_modPort]
@[simp] theorem State.commitMap_queueReply (r : Reply) : (s.queueReply q r).commitMap = s.commitMap := by simp only [State.queueReply, State.commitMap_modPort]
@[simp] theorem State.storeOp_queueReply (r : Reply) : (s.queueReply q r).storeOp = s.storeOp := by simp only [State.queueReply, State.storeOp_modPort]
@[simp] theorem State.lateStores_queueReply (r : Reply) : (s.queueReply q r).lateStores = s.lateStores := by simp only [State.queueReply, State.lateStores_modPort]
@[simp] theorem State.lateBlocks_queueReply (r : Reply) : (s.queueReply q r).lateBlocks = s.lateBlocks := by simp only [State.queueReply, State.lateBlocks_modPort]
@[simp] theorem State.lastResult_queueReply (r : Reply) : (s.queueReply q r).lastResult = s.lastResult := by simp only [State.queueReply, State.lastResult_modPort]
@[simp] theorem State.installer_queueReply (r : Reply) : (s.queueReply q r).installer = s.installer := by simp only [State.queueReply, State.installer_modPort]
@[simp] theorem State.freeCount_queueReply (r : Reply) : (s.queueReply q r).freeCount = s.freeCount := by simp only [State.queueReply, State.freeCount_modPort]

/-! ### Fields under `settle` -/

@[simp] theorem State.pending_settle : (s.settle).pending = s.pending := by simp only [State.settle, State.pending_mapPorts, State.pending_mapPods]
@[simp] theorem State.legs_settle : (s.settle).legs = s.legs := by simp only [State.settle, State.legs_mapPorts, State.legs_mapPods]
@[simp] theorem State.tuning_settle : (s.settle).tuning = s.tuning := by simp only [State.settle, State.tuning_mapPorts, State.tuning_mapPods]
@[simp] theorem State.privacy_settle : (s.settle).privacy = s.privacy := by simp only [State.settle, State.privacy_mapPorts, State.privacy_mapPods]
@[simp] theorem State.talkers_settle : (s.settle).talkers = s.talkers := by simp only [State.settle, State.talkers_mapPorts, State.talkers_mapPods]
@[simp] theorem State.frameCount_settle : (s.settle).frameCount = s.frameCount := by simp only [State.settle, State.frameCount_mapPorts, State.frameCount_mapPods]
@[simp] theorem State.gateInput_settle : (s.settle).gateInput = s.gateInput := by simp only [State.settle, State.gateInput_mapPorts, State.gateInput_mapPods]
@[simp] theorem State.mixInput_settle : (s.settle).mixInput = s.mixInput := by simp only [State.settle, State.mixInput_mapPorts, State.mixInput_mapPods]
@[simp] theorem State.nomGain_settle : (s.settle).nomGain = s.nomGain := by simp only [State.settle, State.nomGain_mapPorts, State.nomGain_mapPods]
@[simp] theorem State.reinforceGain_settle : (s.settle).reinforceGain = s.reinforceGain := by simp only [State.settle, State.reinforceGain_mapPorts, State.reinforceGain_mapPods]
@[simp] theorem State.sync_settle : (s.settle).sync = s.sync := by simp only [State.settle, State.sync_mapPorts, State.sync_mapPods]
@[simp] theorem State.watchdog_settle : (s.settle).watchdog = s.watchdog := by simp only [State.settle, State.watchdog_mapPorts, State.watchdog_mapPods]
@[simp] theorem State.assembly_settle : (s.settle).assembly = s.assembly := by simp only [State.settle, State.assembly_mapPorts, State.assembly_mapPods]
@[simp] theorem State.waiting_settle : (s.settle).waiting = s.waiting := by simp only [State.settle, State.waiting_mapPorts, State.waiting_mapPods]
@[simp] theorem State.inProgress_settle : (s.settle).inProgress = s.inProgress := by simp only [State.settle, State.inProgress_mapPorts, State.inProgress_mapPods]
@[simp] theorem State.lanesOut_settle : (s.settle).lanesOut = s.lanesOut := by simp only [State.settle, State.lanesOut_mapPorts, State.lanesOut_mapPods]
@[simp] theorem State.underway_settle : (s.settle).underway = s.underway := by simp only [State.settle, State.underway_mapPorts, State.underway_mapPods]
@[simp] theorem State.lastPolled_settle : (s.settle).lastPolled = s.lastPolled := by simp only [State.settle, State.lastPolled_mapPorts, State.lastPolled_mapPods]
@[simp] theorem State.slot_settle : (s.settle).slot = s.slot := by simp only [State.settle, State.slot_mapPorts, State.slot_mapPods]
@[simp] theorem State.audioClock_settle : (s.settle).audioClock = s.audioClock := by simp only [State.settle, State.audioClock_mapPorts, State.audioClock_mapPods]
@[simp] theorem State.storeTimeout_settle : (s.settle).storeTimeout = s.storeTimeout := by simp only [State.settle, State.storeTimeout_mapPorts, State.storeTimeout_mapPods]
@[simp] theorem State.store_settle : (s.settle).store = s.store := by simp only [State.settle, State.store_mapPorts, State.store_mapPods]
@[simp] theorem State.commitMap_settle : (s.settle).commitMap = s.commitMap := by simp only [State.settle, State.commitMap_mapPorts, State.commitMap_mapPods]
@[simp] theorem State.storeOp_settle : (s.settle).storeOp = s.storeOp := by simp only [State.settle, State.storeOp_mapPorts, State.storeOp_mapPods]
@[simp] theorem State.lateStores_settle : (s.settle).lateStores = s.lateStores := by simp only [State.settle, State.lateStores_mapPorts, State.lateStores_mapPods]
@[simp] theorem State.lateBlocks_settle : (s.settle).lateBlocks = s.lateBlocks := by simp only [State.settle, State.lateBlocks_mapPorts, State.lateBlocks_mapPods]
@[simp] theorem State.lastResult_settle : (s.settle).lastResult = s.lastResult := by simp only [State.settle, State.lastResult_mapPorts, State.lastResult_mapPods]
@[simp] theorem State.installer_settle : (s.settle).installer = s.installer := by simp only [State.settle, State.installer_mapPorts, State.installer_mapPods]
@[simp] theorem State.freeCount_settle : (s.settle).freeCount = s.freeCount := by simp only [State.settle, State.freeCount_mapPorts, State.freeCount_mapPods]

/-! ### The record an update gives -/

@[simp] theorem State.pod_mapPods (f : PodId → Pod → Pod) : (s.mapPods f).pod p = f p (s.pod p) := by
  simp [State.mapPods, State.pod]

@[simp] theorem State.leg_mapLegs (f : LegId → Leg → Leg) : (s.mapLegs f).leg m = f m (s.leg m) := by
  simp [State.mapLegs, State.leg]

@[simp] theorem State.port_mapPorts (f : PortId → Port → Port) : (s.mapPorts f).port q = f q (s.port q) := by
  simp [State.mapPorts, State.port]

@[simp] theorem State.leg_mapPods (f : PodId → Pod → Pod) : (s.mapPods f).leg m = s.leg m := by simp only [State.leg, State.legs_mapPods]
@[simp] theorem State.port_mapPods (f : PodId → Pod → Pod) : (s.mapPods f).port q = s.port q := by simp only [State.port, State.ports_mapPods]
@[simp] theorem State.pod_mapLegs (f : LegId → Leg → Leg) : (s.mapLegs f).pod p = s.pod p := by simp only [State.pod, State.pods_mapLegs]
@[simp] theorem State.port_mapLegs (f : LegId → Leg → Leg) : (s.mapLegs f).port q = s.port q := by simp only [State.port, State.ports_mapLegs]
@[simp] theorem State.pod_mapPorts (f : PortId → Port → Port) : (s.mapPorts f).pod p = s.pod p := by simp only [State.pod, State.pods_mapPorts]
@[simp] theorem State.leg_mapPorts (f : PortId → Port → Port) : (s.mapPorts f).leg m = s.leg m := by simp only [State.leg, State.legs_mapPorts]

@[simp] theorem State.pod_modPod (f : Pod → Pod) : (s.modPod p f).pod p' = if p' = p then f (s.pod p') else s.pod p' := by
  simp [State.modPod]

@[simp] theorem State.leg_modLeg (f : Leg → Leg) : (s.modLeg m f).leg m' = if m' = m then f (s.leg m') else s.leg m' := by
  simp [State.modLeg]

@[simp] theorem State.port_modPort (f : Port → Port) : (s.modPort q f).port q' = if q' = q then f (s.port q') else s.port q' := by
  simp [State.modPort]

@[simp] theorem State.leg_modPod (f : Pod → Pod) : (s.modPod p f).leg m = s.leg m := by simp only [State.leg, State.legs_modPod]
@[simp] theorem State.port_modPod (f : Pod → Pod) : (s.modPod p f).port q = s.port q := by simp only [State.port, State.ports_modPod]
@[simp] theorem State.pod_modLeg (f : Leg → Leg) : (s.modLeg m f).pod p = s.pod p := by simp only [State.pod, State.pods_modLeg]
@[simp] theorem State.port_modLeg (f : Leg → Leg) : (s.modLeg m f).port q = s.port q := by simp only [State.port, State.ports_modLeg]
@[simp] theorem State.pod_modPort (f : Port → Port) : (s.modPort q f).pod p = s.pod p := by simp only [State.pod, State.pods_modPort]
@[simp] theorem State.leg_modPort (f : Port → Port) : (s.modPort q f).leg m = s.leg m := by simp only [State.leg, State.legs_modPort]

@[simp] theorem State.pod_raise (c : Category) : (s.raise c).pod p = s.pod p := by simp only [State.pod, State.pods_raise]
@[simp] theorem State.leg_raise (c : Category) : (s.raise c).leg m = s.leg m := by simp only [State.leg, State.legs_raise]
@[simp] theorem State.port_raise (c : Category) : (s.raise c).port q = (s.port q).notify c := by simp [State.raise]
@[simp] theorem State.pod_raiseIf (b : Bool) (c : Category) : (s.raiseIf b c).pod p = s.pod p := by simp only [State.pod, State.pods_raiseIf]
@[simp] theorem State.leg_raiseIf (b : Bool) (c : Category) : (s.raiseIf b c).leg m = s.leg m := by simp only [State.leg, State.legs_raiseIf]
@[simp] theorem State.port_raiseIf (b : Bool) (c : Category) :
    (s.raiseIf b c).port q = if b then (s.port q).notify c else s.port q := by cases b <;> simp [State.raiseIf]
@[simp] theorem State.pod_raisePortsOthers : (s.raisePortsOthers q).pod p = s.pod p := by simp only [State.pod, State.pods_raisePortsOthers]
@[simp] theorem State.leg_raisePortsOthers : (s.raisePortsOthers q).leg m = s.leg m := by simp only [State.leg, State.legs_raisePortsOthers]
@[simp] theorem State.port_raisePortsOthers :
    (s.raisePortsOthers q).port q' = if q' = q then s.port q' else (s.port q').notify .ports := by
  simp [State.raisePortsOthers]

@[simp] theorem State.pod_queueReply (r : Reply) : (s.queueReply q r).pod p = s.pod p := by simp only [State.pod, State.pods_queueReply]
@[simp] theorem State.leg_queueReply (r : Reply) : (s.queueReply q r).leg m = s.leg m := by simp only [State.leg, State.legs_queueReply]
@[simp] theorem State.port_queueReply (r : Reply) : (s.queueReply q r).port q' =
    if q' = q then { s.port q' with replies := (s.port q').replies ++ [r] } else s.port q' := by
  simp [State.queueReply]

@[simp] theorem State.leg_settle : s.settle.leg m = s.leg m := by simp only [State.leg, State.legs_settle]
@[simp] theorem State.pod_settle : s.settle.pod p = { s.pod p with
    gate := s.gateOf p, flagCopy := (s.pod p).mutedTalk, pattern := s.patternOf p } := by
  simp [State.settle]
@[simp] theorem State.port_settle : s.settle.port q = { s.port q with attention := (s.port q).wantsAttention } := by
  simp [State.settle]

end Sys2Proof.Machine
end

