-- ==== Sys2Proof/Laws/Ops.lean ====
section
/-! SUPPORT. For each shared operation, what it can do, said once: equality of states by their records, the end of an event, resolved mute and what follows it, notices, fault reports, turns, closes of legs, a change of hold sets or privacy, and what stands on the pod link, the ports' data wires and the audio lanes. -/

namespace Sys2Proof.Machine

/-! ### Equality of states by their records -/

theorem State.pods_ext {s t : State} (h : ∀ p, s.pod p = t.pod p) : s.pods = t.pods :=
  Vector.ext fun i hi => h ⟨i, hi⟩

theorem State.legs_ext {s t : State} (h : ∀ m, s.leg m = t.leg m) : s.legs = t.legs :=
  Vector.ext fun i hi => h ⟨i, hi⟩

theorem State.ports_ext {s t : State} (h : ∀ q, s.port q = t.port q) : s.ports = t.ports :=
  Vector.ext fun i hi => h ⟨i, hi⟩

/-- Two states with the same records of pods, legs and ports and the same other fields are the same. -/
theorem State.ext_records {s t : State} (pods : ∀ p, s.pod p = t.pod p) (legs : ∀ m, s.leg m = t.leg m)
    (ports : ∀ q, s.port q = t.port q)
    (rest : { s with pods := t.pods, legs := t.legs, ports := t.ports } = t) : s = t := by
  rw [← rest, ← State.pods_ext pods, ← State.legs_ext legs, ← State.ports_ext ports]

section
variable (s : State) (p : PodId) (m : LegId) (q : PortId)

/-! ### Records of a state whose other fields are replaced -/

@[simp] theorem State.pod_mk {pending' pods' legs' ports' tuning' privacy' talkers' frameCount' gateInput' mixInput' nomGain' reinforceGain' sync' watchdog' assembly' waiting' inProgress' lanesOut' underway' lastPolled' slot' audioClock' storeTimeout' store' commitMap' storeOp' lateStores' lateBlocks' lastResult' installer' freeCount'} :
    (State.mk pending' pods' legs' ports' tuning' privacy' talkers' frameCount' gateInput' mixInput' nomGain' reinforceGain' sync' watchdog' assembly' waiting' inProgress' lanesOut' underway' lastPolled' slot' audioClock' storeTimeout' store' commitMap' storeOp' lateStores' lateBlocks' lastResult' installer' freeCount').pod p = pods'[p] := rfl

@[simp] theorem State.leg_mk {pending' pods' legs' ports' tuning' privacy' talkers' frameCount' gateInput' mixInput' nomGain' reinforceGain' sync' watchdog' assembly' waiting' inProgress' lanesOut' underway' lastPolled' slot' audioClock' storeTimeout' store' commitMap' storeOp' lateStores' lateBlocks' lastResult' installer' freeCount'} :
    (State.mk pending' pods' legs' ports' tuning' privacy' talkers' frameCount' gateInput' mixInput' nomGain' reinforceGain' sync' watchdog' assembly' waiting' inProgress' lanesOut' underway' lastPolled' slot' audioClock' storeTimeout' store' commitMap' storeOp' lateStores' lateBlocks' lastResult' installer' freeCount').leg m = legs'[m] := rfl

@[simp] theorem State.port_mk {pending' pods' legs' ports' tuning' privacy' talkers' frameCount' gateInput' mixInput' nomGain' reinforceGain' sync' watchdog' assembly' waiting' inProgress' lanesOut' underway' lastPolled' slot' audioClock' storeTimeout' store' commitMap' storeOp' lateStores' lateBlocks' lastResult' installer' freeCount'} :
    (State.mk pending' pods' legs' ports' tuning' privacy' talkers' frameCount' gateInput' mixInput' nomGain' reinforceGain' sync' watchdog' assembly' waiting' inProgress' lanesOut' underway' lastPolled' slot' audioClock' storeTimeout' store' commitMap' storeOp' lateStores' lateBlocks' lastResult' installer' freeCount').port q = ports'[q] := rfl

@[simp] theorem State.getElem_pods (h : p.val < 24) : s.pods[p.val]'h = s.pod p := rfl
@[simp] theorem State.getElem_legs (h : m.val < 4) : s.legs[m.val]'h = s.leg m := rfl
@[simp] theorem State.getElem_ports (h : q.val < 3) : s.ports[q.val]'h = s.port q := rfl

/-! ### What follows the rest of the state -/

theorem State.muted_congr {s t : State} {p : PodId} (hl : (s.pod p).listed = (t.pod p).listed)
    (hh : (s.pod p).holds = (t.pod p).holds) (hp : s.privacy = t.privacy) : s.muted p = t.muted p := by
  simp only [State.muted, hl, hh, hp]

theorem State.unmuted_congr {s t : State} {p : PodId} (hl : (s.pod p).listed = (t.pod p).listed)
    (hh : (s.pod p).holds = (t.pod p).holds) (hp : s.privacy = t.privacy) : s.unmuted p = t.unmuted p := by
  simp only [State.unmuted, hl, hh, hp]

theorem State.gateOf_congr {s t : State} (p : PodId) (h : s.talkers = t.talkers) : s.gateOf p = t.gateOf p := by
  simp only [State.gateOf, h]

theorem State.talks_congr {s t : State} (p : PodId) (h : s.talkers = t.talkers) : s.talks p = t.talks p := by
  simp only [State.talks, h]

/-- The inputs of an indicator entry (R55): listing, hold set, flag and mute envelope of the pod, the privacy record and the talker list. -/
theorem State.patternOf_congr {s t : State} {p : PodId} (hl : (s.pod p).listed = (t.pod p).listed)
    (hh : (s.pod p).holds = (t.pod p).holds) (hf : (s.pod p).mutedTalk = (t.pod p).mutedTalk)
    (hm : (s.pod p).muteEnv.now = (t.pod p).muteEnv.now) (hp : s.privacy = t.privacy) (ht : s.talkers = t.talkers) :
    s.patternOf p = t.patternOf p := by
  simp only [State.patternOf, State.muted_congr hl hh hp, State.talks_congr p ht, hl, hh, hf, hm, hp]

/-- A channel is resolved-muted or resolved-unmuted exactly when it is listed, and never both (R20). -/
theorem State.unmuted_eq : s.unmuted p = ((s.pod p).listed && !s.muted p) := by
  simp only [State.unmuted, State.muted]; cases (s.pod p).listed <;> simp

/-- A hold set is non-empty when it is not the empty one. -/
theorem HoldSet.any_iff (h : HoldSet) : h.any = true ↔ h ≠ HoldSet.empty := by
  rcases h with ⟨_ | _, _ | _, _ | _, _ | _⟩ <;> decide

/-- A leg hold set is non-empty when it is not the empty one. -/
theorem LegHolds.any_iff (h : LegHolds) : h.any = true ↔ h ≠ LegHolds.empty := by
  rcases h with ⟨_ | _, _ | _⟩ <;> decide

/-! ### The end of an event -/

/-- A state is settled when each recomputed value stands at what the rest of the state gives. -/
theorem State.settled_iff : s.settled ↔
    (∀ p, (s.pod p).gate = s.gateOf p ∧ (s.pod p).flagCopy = (s.pod p).mutedTalk ∧ (s.pod p).pattern = s.patternOf p) ∧
    ∀ q, (s.port q).attention = (s.port q).wantsAttention := by
  constructor
  · intro h
    refine ⟨fun p => ?_, fun q => ?_⟩
    · have := congrArg (fun t => State.pod t p) h
      simp only [State.pod_settle] at this
      rw [← this]; exact ⟨rfl, rfl, rfl⟩
    · have := congrArg (fun t => State.port t q) h
      simp only [State.port_settle] at this
      rw [← this]; rfl
  · rintro ⟨hp, hq⟩
    refine State.ext_records (fun p => ?_) (fun m => by simp) (fun q => ?_) ?_
    · rw [State.pod_settle, ← (hp p).1, ← (hp p).2.1, ← (hp p).2.2]
    · rw [State.port_settle, ← hq q]
    · simp only [State.settle, State.mapPods, State.mapPorts]

/-- What the end of an event leaves has nothing left to recompute. -/
theorem State.settled_settle : s.settle.settled := by
  rw [State.settled_iff]
  refine ⟨fun p => ?_, fun q => ?_⟩
  · rw [State.pod_settle]
    exact ⟨State.gateOf_congr p (by simp), rfl,
      State.patternOf_congr (by simp) (by simp) (by simp) (by simp) (by simp) (by simp)⟩
  · rw [State.port_settle]; rfl

@[simp] theorem State.settle_settle : s.settle.settle = s.settle := s.settled_settle

/-- The end of an event changes pods and ports alone. -/
theorem State.settle_eq : s.settle = { s with pods := s.settle.pods, ports := s.settle.ports } := by
  simp only [State.settle, State.mapPods, State.mapPorts]

@[simp] theorem State.muted_settle : s.settle.muted p = s.muted p := State.muted_congr (by simp) (by simp) (by simp)
@[simp] theorem State.unmuted_settle : s.settle.unmuted p = s.unmuted p := State.unmuted_congr (by simp) (by simp) (by simp)
@[simp] theorem State.talks_settle : s.settle.talks p = s.talks p := State.talks_congr p (by simp)
@[simp] theorem State.gateOf_settle : s.settle.gateOf p = s.gateOf p := State.gateOf_congr p (by simp)
@[simp] theorem State.patternOf_settle : s.settle.patternOf p = s.patternOf p :=
  State.patternOf_congr (by simp) (by simp) (by simp) (by simp) (by simp) (by simp)

/-! ### Ports and legs do not touch mute, gates or patterns -/

@[simp] theorem State.muted_mapPorts (f : PortId → Port → Port) : (s.mapPorts f).muted p = s.muted p :=
  State.muted_congr (by simp) (by simp) (by simp)
@[simp] theorem State.unmuted_mapPorts (f : PortId → Port → Port) : (s.mapPorts f).unmuted p = s.unmuted p :=
  State.unmuted_congr (by simp) (by simp) (by simp)
@[simp] theorem State.gateOf_mapPorts (f : PortId → Port → Port) : (s.mapPorts f).gateOf p = s.gateOf p :=
  State.gateOf_congr p (by simp)
@[simp] theorem State.patternOf_mapPorts (f : PortId → Port → Port) : (s.mapPorts f).patternOf p = s.patternOf p :=
  State.patternOf_congr (by simp) (by simp) (by simp) (by simp) (by simp) (by simp)
@[simp] theorem State.muted_mapLegs (f : LegId → Leg → Leg) : (s.mapLegs f).muted p = s.muted p :=
  State.muted_congr (by simp) (by simp) (by simp)
@[simp] theorem State.unmuted_mapLegs (f : LegId → Leg → Leg) : (s.mapLegs f).unmuted p = s.unmuted p :=
  State.unmuted_congr (by simp) (by simp) (by simp)
@[simp] theorem State.gateOf_mapLegs (f : LegId → Leg → Leg) : (s.mapLegs f).gateOf p = s.gateOf p :=
  State.gateOf_congr p (by simp)
@[simp] theorem State.patternOf_mapLegs (f : LegId → Leg → Leg) : (s.mapLegs f).patternOf p = s.patternOf p :=
  State.patternOf_congr (by simp) (by simp) (by simp) (by simp) (by simp) (by simp)

/-- A change of port records alone leaves a settled state settled when each attention line follows its port. -/
theorem State.settled_mapPorts {s : State} (h : s.settled) (f : PortId → Port → Port)
    (ha : ∀ q, (f q (s.port q)).attention = (f q (s.port q)).wantsAttention) : (s.mapPorts f).settled := by
  rw [State.settled_iff] at h ⊢
  refine ⟨fun p => ?_, fun q => ?_⟩
  · simpa using h.1 p
  · simpa using ha q

/-! ### Notices (R158) -/

/-- A raised category leaves every field of a port but its pending set, and adds the category there if the port is joined and watches it. -/
theorem Port.notify_eq (c : Category) (port : Port) : port.notify c =
    { port with pendingSet := if port.joined then port.pendingSet ||| (port.mask &&& c.bit) else port.pendingSet } := by
  unfold Port.notify; split <;> rfl

@[simp] theorem Port.joined_notify (c : Category) (port : Port) : (port.notify c).joined = port.joined := by
  rw [Port.notify_eq]; rfl

/-- A raised notice changes the port records alone. -/
theorem State.raise_eq (c : Category) : s.raise c = { s with ports := (s.raise c).ports } := by
  simp only [State.raise, State.mapPorts]

/-- A notice raised on a condition changes the port records alone. -/
theorem State.raiseIf_eq (b : Bool) (c : Category) : s.raiseIf b c = { s with ports := (s.raiseIf b c).ports } := by
  cases b
  · rfl
  · exact s.raise_eq c

/-! ### Fault reports (R165) -/

@[simp] theorem FaultRecord.condition_report (r : FaultRecord) (b : Bool) : (r.report b).condition = b := by cases b <;> rfl

/-- A report latches a condition that is present, and never clears the latch. -/
@[simp] theorem FaultRecord.latch_report (r : FaultRecord) (b : Bool) : (r.report b).latch = (r.latch || b) := by
  cases b <;> simp [FaultRecord.report]

/-- A reported record is latched while its condition is present. -/
theorem FaultRecord.sound_report (r : FaultRecord) (b : Bool) : (r.report b).sound := by
  intro h; simp_all

/-! ### Turns (R151) -/

/-- All that the turn of a head frame can do: nothing, when there is no such frame or no room for its reply; a refusal, which changes the two queues alone; or the row's effects, its reply, and the end of the event. -/
theorem takeTurn_cases (row : RequestRow) (request : Request) :
    takeTurn row request q s = s ∨
    ∃ f rest, (s.port q).requests = f :: rest ∧ (s.port q).replies.length < 4 ∧ f.row = row ∧
      ((∃ x, outcomeOf row request q f (s.modPort q fun port => { port with requests := rest }) = .error x ∧
          takeTurn row request q s =
            ((s.modPort q fun port => { port with requests := rest }).queueReply q ⟨.refused x, f.code, []⟩).settle) ∨
       ∃ a t, outcomeOf row request q f (s.modPort q fun port => { port with requests := rest }) = .ok (a, t) ∧
          takeTurn row request q s = (t.queueReply q ⟨a.status, f.code, a.payload⟩).settle) := by
  unfold takeTurn
  split
  · exact .inl rfl
  · rename_i f rest hr
    split
    · rename_i hc
      refine .inr ⟨f, rest, hr, hc.1, hc.2, ?_⟩
      cases ho : outcomeOf row request q f (s.modPort q fun port => { port with requests := rest }) with
      | error x => exact .inl ⟨x, rfl, by simp only [ho, State.answer]⟩
      | ok r => exact .inr ⟨r.1, r.2, rfl, by simp only [ho, State.answer]⟩
    · exact .inl rfl

/-- The turn of a head frame of this row, with room for its reply. -/
theorem takeTurn_head {s : State} {q : PortId} {f : RequestFrame} {rest : List RequestFrame} (row : RequestRow)
    (request : Request) (hf : (s.port q).requests = f :: rest) (hr : (s.port q).replies.length < 4) (hrow : f.row = row) :
    takeTurn row request q s =
      ((s.modPort q fun port => { port with requests := rest }).answer q f
        (outcomeOf row request q f (s.modPort q fun port => { port with requests := rest }))).settle := by
  unfold takeTurn
  rw [hf]
  exact if_pos ⟨hr, hrow⟩

/-- What an outcome leaves of a refusal. -/
theorem ensure_cases (b : Bool) (x : Reason) (k : Outcome) :
    (b = true ∧ ensure b x k = k) ∨ (b = false ∧ ensure b x k = .error x) := by
  cases b <;> simp [ensure, refuse]

/-! ### A change of hold sets or of the privacy record (R21, R22) -/

@[simp] theorem State.pending_takeHoldChange (before after : State) : (takeHoldChange before after).pending = after.pending := by
  simp only [takeHoldChange, State.pending_raiseIf, State.pending_mapPods]
@[simp] theorem State.legs_takeHoldChange (before after : State) : (takeHoldChange before after).legs = after.legs := by
  simp only [takeHoldChange, State.legs_raiseIf, State.legs_mapPods]
@[simp] theorem State.tuning_takeHoldChange (before after : State) : (takeHoldChange before after).tuning = after.tuning := by
  simp only [takeHoldChange, State.tuning_raiseIf, State.tuning_mapPods]
@[simp] theorem State.privacy_takeHoldChange (before after : State) : (takeHoldChange before after).privacy = after.privacy := by
  simp only [takeHoldChange, State.privacy_raiseIf, State.privacy_mapPods]
@[simp] theorem State.frameCount_takeHoldChange (before after : State) : (takeHoldChange before after).frameCount = after.frameCount := by
  simp only [takeHoldChange, State.frameCount_raiseIf, State.frameCount_mapPods]
@[simp] theorem State.gateInput_takeHoldChange (before after : State) : (takeHoldChange before after).gateInput = after.gateInput := by
  simp only [takeHoldChange, State.gateInput_raiseIf, State.gateInput_mapPods]
@[simp] theorem State.mixInput_takeHoldChange (before after : State) : (takeHoldChange before after).mixInput = after.mixInput := by
  simp only [takeHoldChange, State.mixInput_raiseIf, State.mixInput_mapPods]
@[simp] theorem State.nomGain_takeHoldChange (before after : State) : (takeHoldChange before after).nomGain = after.nomGain := by
  simp only [takeHoldChange, State.nomGain_raiseIf, State.nomGain_mapPods]
@[simp] theorem State.reinforceGain_takeHoldChange (before after : State) : (takeHoldChange before after).reinforceGain = after.reinforceGain := by
  simp only [takeHoldChange, State.reinforceGain_raiseIf, State.reinforceGain_mapPods]
@[simp] theorem State.sync_takeHoldChange (before after : State) : (takeHoldChange before after).sync = after.sync := by
  simp only [takeHoldChange, State.sync_raiseIf, State.sync_mapPods]
@[simp] theorem State.watchdog_takeHoldChange (before after : State) : (takeHoldChange before after).watchdog = after.watchdog := by
  simp only [takeHoldChange, State.watchdog_raiseIf, State.watchdog_mapPods]
@[simp] theorem State.assembly_takeHoldChange (before after : State) : (takeHoldChange before after).assembly = after.assembly := by
  simp only [takeHoldChange, State.assembly_raiseIf, State.assembly_mapPods]
@[simp] theorem State.waiting_takeHoldChange (before after : State) : (takeHoldChange before after).waiting = after.waiting := by
  simp only [takeHoldChange, State.waiting_raiseIf, State.waiting_mapPods]
@[simp] theorem State.inProgress_takeHoldChange (before after : State) : (takeHoldChange before after).inProgress = after.inProgress := by
  simp only [takeHoldChange, State.inProgress_raiseIf, State.inProgress_mapPods]
@[simp] theorem State.lanesOut_takeHoldChange (before after : State) : (takeHoldChange before after).lanesOut = after.lanesOut := by
  simp only [takeHoldChange, State.lanesOut_raiseIf, State.lanesOut_mapPods]
@[simp] theorem State.underway_takeHoldChange (before after : State) : (takeHoldChange before after).underway = after.underway := by
  simp only [takeHoldChange, State.underway_raiseIf, State.underway_mapPods]
@[simp] theorem State.lastPolled_takeHoldChange (before after : State) : (takeHoldChange before after).lastPolled = after.lastPolled := by
  simp only [takeHoldChange, State.lastPolled_raiseIf, State.lastPolled_mapPods]
@[simp] theorem State.slot_takeHoldChange (before after : State) : (takeHoldChange before after).slot = after.slot := by
  simp only [takeHoldChange, State.slot_raiseIf, State.slot_mapPods]
@[simp] theorem State.audioClock_takeHoldChange (before after : State) : (takeHoldChange before after).audioClock = after.audioClock := by
  simp only [takeHoldChange, State.audioClock_raiseIf, State.audioClock_mapPods]
@[simp] theorem State.storeTimeout_takeHoldChange (before after : State) : (takeHoldChange before after).storeTimeout = after.storeTimeout := by
  simp only [takeHoldChange, State.storeTimeout_raiseIf, State.storeTimeout_mapPods]
@[simp] theorem State.store_takeHoldChange (before after : State) : (takeHoldChange before after).store = after.store := by
  simp only [takeHoldChange, State.store_raiseIf, State.store_mapPods]
@[simp] theorem State.commitMap_takeHoldChange (before after : State) : (takeHoldChange before after).commitMap = after.commitMap := by
  simp only [takeHoldChange, State.commitMap_raiseIf, State.commitMap_mapPods]
@[simp] theorem State.storeOp_takeHoldChange (before after : State) : (takeHoldChange before after).storeOp = after.storeOp := by
  simp only [takeHoldChange, State.storeOp_raiseIf, State.storeOp_mapPods]
@[simp] theorem State.lateStores_takeHoldChange (before after : State) : (takeHoldChange before after).lateStores = after.lateStores := by
  simp only [takeHoldChange, State.lateStores_raiseIf, State.lateStores_mapPods]
@[simp] theorem State.lateBlocks_takeHoldChange (before after : State) : (takeHoldChange before after).lateBlocks = after.lateBlocks := by
  simp only [takeHoldChange, State.lateBlocks_raiseIf, State.lateBlocks_mapPods]
@[simp] theorem State.lastResult_takeHoldChange (before after : State) : (takeHoldChange before after).lastResult = after.lastResult := by
  simp only [takeHoldChange, State.lastResult_raiseIf, State.lastResult_mapPods]
@[simp] theorem State.installer_takeHoldChange (before after : State) : (takeHoldChange before after).installer = after.installer := by
  simp only [takeHoldChange, State.installer_raiseIf, State.installer_mapPods]
@[simp] theorem State.freeCount_takeHoldChange (before after : State) : (takeHoldChange before after).freeCount = after.freeCount := by
  simp only [takeHoldChange, State.freeCount_raiseIf, State.freeCount_mapPods]
@[simp] theorem State.pod_takeHoldChange (before after : State) : (takeHoldChange before after).pod p =
    { after.pod p with mutedTalk := (after.pod p).mutedTalk && !(before.muted p && after.unmuted p) } := by
  simp only [takeHoldChange, State.pod_raiseIf, State.pod_mapPods]
  rfl

@[simp] theorem State.talkers_takeHoldChange (before after : State) : (takeHoldChange before after).talkers =
    after.talkers.filter fun e => !(before.unmuted e.pod && after.muted e.pod) := by
  simp only [takeHoldChange, State.talkers_raiseIf, State.talkers_mapPods]

@[simp] theorem State.leg_takeHoldChange (before after : State) : (takeHoldChange before after).leg m = after.leg m := by
  simp only [takeHoldChange, State.leg_raiseIf, State.leg_mapPods]
  rfl

/-- Ports after a change of hold sets or of privacy: HOLDS if anything changed, TALKERS if an entry or a flag was removed. -/
theorem State.port_takeHoldChange (before after : State) : (takeHoldChange before after).port q =
    (let p1 := if holdsDiffer before after then (after.port q).notify .holds else after.port q
     if (after.talkers.any fun e => before.unmuted e.pod && after.muted e.pod) ||
        (allPods.any fun p => (before.muted p && after.unmuted p) && (after.pod p).mutedTalk) then p1.notify .talkers
     else p1) := by
  simp only [takeHoldChange, State.port_raiseIf, State.port_mapPods]
  rfl

/-! ### Legs (R51, R121 to R125) -/

@[simp] theorem State.pending_lastClose : s.lastClose.pending = s.pending := by
  unfold State.lastClose; simp only; split <;> simp only [State.pending_mapPods]
@[simp] theorem State.legs_lastClose : s.lastClose.legs = s.legs := by
  unfold State.lastClose; simp only; split <;> simp only [State.legs_mapPods]
@[simp] theorem State.ports_lastClose : s.lastClose.ports = s.ports := by
  unfold State.lastClose; simp only; split <;> simp only [State.ports_mapPods]
@[simp] theorem State.tuning_lastClose : s.lastClose.tuning = s.tuning := by
  unfold State.lastClose; simp only; split <;> simp only [State.tuning_mapPods]
@[simp] theorem State.talkers_lastClose : s.lastClose.talkers = s.talkers := by
  unfold State.lastClose; simp only; split <;> simp only [State.talkers_mapPods]
@[simp] theorem State.frameCount_lastClose : s.lastClose.frameCount = s.frameCount := by
  unfold State.lastClose; simp only; split <;> simp only [State.frameCount_mapPods]
@[simp] theorem State.gateInput_lastClose : s.lastClose.gateInput = s.gateInput := by
  unfold State.lastClose; simp only; split <;> simp only [State.gateInput_mapPods]
@[simp] theorem State.mixInput_lastClose : s.lastClose.mixInput = s.mixInput := by
  unfold State.lastClose; simp only; split <;> simp only [State.mixInput_mapPods]
@[simp] theorem State.nomGain_lastClose : s.lastClose.nomGain = s.nomGain := by
  unfold State.lastClose; simp only; split <;> simp only [State.nomGain_mapPods]
@[simp] theorem State.reinforceGain_lastClose : s.lastClose.reinforceGain = s.reinforceGain := by
  unfold State.lastClose; simp only; split <;> simp only [State.reinforceGain_mapPods]
@[simp] theorem State.sync_lastClose : s.lastClose.sync = s.sync := by
  unfold State.lastClose; simp only; split <;> simp only [State.sync_mapPods]
@[simp] theorem State.watchdog_lastClose : s.lastClose.watchdog = s.watchdog := by
  unfold State.lastClose; simp only; split <;> simp only [State.watchdog_mapPods]
@[simp] theorem State.assembly_lastClose : s.lastClose.assembly = s.assembly := by
  unfold State.lastClose; simp only; split <;> simp only [State.assembly_mapPods]
@[simp] theorem State.waiting_lastClose : s.lastClose.waiting = s.waiting := by
  unfold State.lastClose; simp only; split <;> simp only [State.waiting_mapPods]
@[simp] theorem State.inProgress_lastClose : s.lastClose.inProgress = s.inProgress := by
  unfold State.lastClose; simp only; split <;> simp only [State.inProgress_mapPods]
@[simp] theorem State.lanesOut_lastClose : s.lastClose.lanesOut = s.lanesOut := by
  unfold State.lastClose; simp only; split <;> simp only [State.lanesOut_mapPods]
@[simp] theorem State.underway_lastClose : s.lastClose.underway = s.underway := by
  unfold State.lastClose; simp only; split <;> simp only [State.underway_mapPods]
@[simp] theorem State.lastPolled_lastClose : s.lastClose.lastPolled = s.lastPolled := by
  unfold State.lastClose; simp only; split <;> simp only [State.lastPolled_mapPods]
@[simp] theorem State.slot_lastClose : s.lastClose.slot = s.slot := by
  unfold State.lastClose; simp only; split <;> simp only [State.slot_mapPods]
@[simp] theorem State.audioClock_lastClose : s.lastClose.audioClock = s.audioClock := by
  unfold State.lastClose; simp only; split <;> simp only [State.audioClock_mapPods]
@[simp] theorem State.storeTimeout_lastClose : s.lastClose.storeTimeout = s.storeTimeout := by
  unfold State.lastClose; simp only; split <;> simp only [State.storeTimeout_mapPods]
@[simp] theorem State.store_lastClose : s.lastClose.store = s.store := by
  unfold State.lastClose; simp only; split <;> simp only [State.store_mapPods]
@[simp] theorem State.commitMap_lastClose : s.lastClose.commitMap = s.commitMap := by
  unfold State.lastClose; simp only; split <;> simp only [State.commitMap_mapPods]
@[simp] theorem State.storeOp_lastClose : s.lastClose.storeOp = s.storeOp := by
  unfold State.lastClose; simp only; split <;> simp only [State.storeOp_mapPods]
@[simp] theorem State.lateStores_lastClose : s.lastClose.lateStores = s.lateStores := by
  unfold State.lastClose; simp only; split <;> simp only [State.lateStores_mapPods]
@[simp] theorem State.lateBlocks_lastClose : s.lastClose.lateBlocks = s.lateBlocks := by
  unfold State.lastClose; simp only; split <;> simp only [State.lateBlocks_mapPods]
@[simp] theorem State.lastResult_lastClose : s.lastClose.lastResult = s.lastResult := by
  unfold State.lastClose; simp only; split <;> simp only [State.lastResult_mapPods]
@[simp] theorem State.installer_lastClose : s.lastClose.installer = s.installer := by
  unfold State.lastClose; simp only; split <;> simp only [State.installer_mapPods]
@[simp] theorem State.freeCount_lastClose : s.lastClose.freeCount = s.freeCount := by
  unfold State.lastClose; simp only; split <;> simp only [State.freeCount_mapPods]
@[simp] theorem State.pending_closeLegs (pick : LegId → Bool) : (s.closeLegs pick).pending = s.pending := by
  unfold State.closeLegs; simp only; split <;> simp only [State.pending_lastClose, State.pending_mapLegs]
@[simp] theorem State.ports_closeLegs (pick : LegId → Bool) : (s.closeLegs pick).ports = s.ports := by
  unfold State.closeLegs; simp only; split <;> simp only [State.ports_lastClose, State.ports_mapLegs]
@[simp] theorem State.tuning_closeLegs (pick : LegId → Bool) : (s.closeLegs pick).tuning = s.tuning := by
  unfold State.closeLegs; simp only; split <;> simp only [State.tuning_lastClose, State.tuning_mapLegs]
@[simp] theorem State.talkers_closeLegs (pick : LegId → Bool) : (s.closeLegs pick).talkers = s.talkers := by
  unfold State.closeLegs; simp only; split <;> simp only [State.talkers_lastClose, State.talkers_mapLegs]
@[simp] theorem State.frameCount_closeLegs (pick : LegId → Bool) : (s.closeLegs pick).frameCount = s.frameCount := by
  unfold State.closeLegs; simp only; split <;> simp only [State.frameCount_lastClose, State.frameCount_mapLegs]
@[simp] theorem State.gateInput_closeLegs (pick : LegId → Bool) : (s.closeLegs pick).gateInput = s.gateInput := by
  unfold State.closeLegs; simp only; split <;> simp only [State.gateInput_lastClose, State.gateInput_mapLegs]
@[simp] theorem State.mixInput_closeLegs (pick : LegId → Bool) : (s.closeLegs pick).mixInput = s.mixInput := by
  unfold State.closeLegs; simp only; split <;> simp only [State.mixInput_lastClose, State.mixInput_mapLegs]
@[simp] theorem State.nomGain_closeLegs (pick : LegId → Bool) : (s.closeLegs pick).nomGain = s.nomGain := by
  unfold State.closeLegs; simp only; split <;> simp only [State.nomGain_lastClose, State.nomGain_mapLegs]
@[simp] theorem State.reinforceGain_closeLegs (pick : LegId → Bool) : (s.closeLegs pick).reinforceGain = s.reinforceGain := by
  unfold State.closeLegs; simp only; split <;> simp only [State.reinforceGain_lastClose, State.reinforceGain_mapLegs]
@[simp] theorem State.sync_closeLegs (pick : LegId → Bool) : (s.closeLegs pick).sync = s.sync := by
  unfold State.closeLegs; simp only; split <;> simp only [State.sync_lastClose, State.sync_mapLegs]
@[simp] theorem State.watchdog_closeLegs (pick : LegId → Bool) : (s.closeLegs pick).watchdog = s.watchdog := by
  unfold State.closeLegs; simp only; split <;> simp only [State.watchdog_lastClose, State.watchdog_mapLegs]
@[simp] theorem State.assembly_closeLegs (pick : LegId → Bool) : (s.closeLegs pick).assembly = s.assembly := by
  unfold State.closeLegs; simp only; split <;> simp only [State.assembly_lastClose, State.assembly_mapLegs]
@[simp] theorem State.waiting_closeLegs (pick : LegId → Bool) : (s.closeLegs pick).waiting = s.waiting := by
  unfold State.closeLegs; simp only; split <;> simp only [State.waiting_lastClose, State.waiting_mapLegs]
@[simp] theorem State.inProgress_closeLegs (pick : LegId → Bool) : (s.closeLegs pick).inProgress = s.inProgress := by
  unfold State.closeLegs; simp only; split <;> simp only [State.inProgress_lastClose, State.inProgress_mapLegs]
@[simp] theorem State.lanesOut_closeLegs (pick : LegId → Bool) : (s.closeLegs pick).lanesOut = s.lanesOut := by
  unfold State.closeLegs; simp only; split <;> simp only [State.lanesOut_lastClose, State.lanesOut_mapLegs]
@[simp] theorem State.underway_closeLegs (pick : LegId → Bool) : (s.closeLegs pick).underway = s.underway := by
  unfold State.closeLegs; simp only; split <;> simp only [State.underway_lastClose, State.underway_mapLegs]
@[simp] theorem State.lastPolled_closeLegs (pick : LegId → Bool) : (s.closeLegs pick).lastPolled = s.lastPolled := by
  unfold State.closeLegs; simp only; split <;> simp only [State.lastPolled_lastClose, State.lastPolled_mapLegs]
@[simp] theorem State.slot_closeLegs (pick : LegId → Bool) : (s.closeLegs pick).slot = s.slot := by
  unfold State.closeLegs; simp only; split <;> simp only [State.slot_lastClose, State.slot_mapLegs]
@[simp] theorem State.audioClock_closeLegs (pick : LegId → Bool) : (s.closeLegs pick).audioClock = s.audioClock := by
  unfold State.closeLegs; simp only; split <;> simp only [State.audioClock_lastClose, State.audioClock_mapLegs]
@[simp] theorem State.storeTimeout_closeLegs (pick : LegId → Bool) : (s.closeLegs pick).storeTimeout = s.storeTimeout := by
  unfold State.closeLegs; simp only; split <;> simp only [State.storeTimeout_lastClose, State.storeTimeout_mapLegs]
@[simp] theorem State.store_closeLegs (pick : LegId → Bool) : (s.closeLegs pick).store = s.store := by
  unfold State.closeLegs; simp only; split <;> simp only [State.store_lastClose, State.store_mapLegs]
@[simp] theorem State.commitMap_closeLegs (pick : LegId → Bool) : (s.closeLegs pick).commitMap = s.commitMap := by
  unfold State.closeLegs; simp only; split <;> simp only [State.commitMap_lastClose, State.commitMap_mapLegs]
@[simp] theorem State.storeOp_closeLegs (pick : LegId → Bool) : (s.closeLegs pick).storeOp = s.storeOp := by
  unfold State.closeLegs; simp only; split <;> simp only [State.storeOp_lastClose, State.storeOp_mapLegs]
@[simp] theorem State.lateStores_closeLegs (pick : LegId → Bool) : (s.closeLegs pick).lateStores = s.lateStores := by
  unfold State.closeLegs; simp only; split <;> simp only [State.lateStores_lastClose, State.lateStores_mapLegs]
@[simp] theorem State.lateBlocks_closeLegs (pick : LegId → Bool) : (s.closeLegs pick).lateBlocks = s.lateBlocks := by
  unfold State.closeLegs; simp only; split <;> simp only [State.lateBlocks_lastClose, State.lateBlocks_mapLegs]
@[simp] theorem State.lastResult_closeLegs (pick : LegId → Bool) : (s.closeLegs pick).lastResult = s.lastResult := by
  unfold State.closeLegs; simp only; split <;> simp only [State.lastResult_lastClose, State.lastResult_mapLegs]
@[simp] theorem State.installer_closeLegs (pick : LegId → Bool) : (s.closeLegs pick).installer = s.installer := by
  unfold State.closeLegs; simp only; split <;> simp only [State.installer_lastClose, State.installer_mapLegs]
@[simp] theorem State.freeCount_closeLegs (pick : LegId → Bool) : (s.closeLegs pick).freeCount = s.freeCount := by
  unfold State.closeLegs; simp only; split <;> simp only [State.freeCount_lastClose, State.freeCount_mapLegs]
@[simp] theorem State.pending_firstOpen : s.firstOpen.pending = s.pending := by
  unfold State.firstOpen; split <;> simp only [State.pending_mapPods]
@[simp] theorem State.legs_firstOpen : s.firstOpen.legs = s.legs := by
  unfold State.firstOpen; split <;> simp only [State.legs_mapPods]
@[simp] theorem State.ports_firstOpen : s.firstOpen.ports = s.ports := by
  unfold State.firstOpen; split <;> simp only [State.ports_mapPods]
@[simp] theorem State.tuning_firstOpen : s.firstOpen.tuning = s.tuning := by
  unfold State.firstOpen; split <;> simp only [State.tuning_mapPods]
@[simp] theorem State.privacy_firstOpen : s.firstOpen.privacy = s.privacy := by
  unfold State.firstOpen; split <;> simp only [State.privacy_mapPods]
@[simp] theorem State.talkers_firstOpen : s.firstOpen.talkers = s.talkers := by
  unfold State.firstOpen; split <;> simp only [State.talkers_mapPods]
@[simp] theorem State.frameCount_firstOpen : s.firstOpen.frameCount = s.frameCount := by
  unfold State.firstOpen; split <;> simp only [State.frameCount_mapPods]
@[simp] theorem State.gateInput_firstOpen : s.firstOpen.gateInput = s.gateInput := by
  unfold State.firstOpen; split <;> simp only [State.gateInput_mapPods]
@[simp] theorem State.mixInput_firstOpen : s.firstOpen.mixInput = s.mixInput := by
  unfold State.firstOpen; split <;> simp only [State.mixInput_mapPods]
@[simp] theorem State.nomGain_firstOpen : s.firstOpen.nomGain = s.nomGain := by
  unfold State.firstOpen; split <;> simp only [State.nomGain_mapPods]
@[simp] theorem State.reinforceGain_firstOpen : s.firstOpen.reinforceGain = s.reinforceGain := by
  unfold State.firstOpen; split <;> simp only [State.reinforceGain_mapPods]
@[simp] theorem State.sync_firstOpen : s.firstOpen.sync = s.sync := by
  unfold State.firstOpen; split <;> simp only [State.sync_mapPods]
@[simp] theorem State.watchdog_firstOpen : s.firstOpen.watchdog = s.watchdog := by
  unfold State.firstOpen; split <;> simp only [State.watchdog_mapPods]
@[simp] theorem State.assembly_firstOpen : s.firstOpen.assembly = s.assembly := by
  unfold State.firstOpen; split <;> simp only [State.assembly_mapPods]
@[simp] theorem State.waiting_firstOpen : s.firstOpen.waiting = s.waiting := by
  unfold State.firstOpen; split <;> simp only [State.waiting_mapPods]
@[simp] theorem State.inProgress_firstOpen : s.firstOpen.inProgress = s.inProgress := by
  unfold State.firstOpen; split <;> simp only [State.inProgress_mapPods]
@[simp] theorem State.lanesOut_firstOpen : s.firstOpen.lanesOut = s.lanesOut := by
  unfold State.firstOpen; split <;> simp only [State.lanesOut_mapPods]
@[simp] theorem State.underway_firstOpen : s.firstOpen.underway = s.underway := by
  unfold State.firstOpen; split <;> simp only [State.underway_mapPods]
@[simp] theorem State.lastPolled_firstOpen : s.firstOpen.lastPolled = s.lastPolled := by
  unfold State.firstOpen; split <;> simp only [State.lastPolled_mapPods]
@[simp] theorem State.slot_firstOpen : s.firstOpen.slot = s.slot := by
  unfold State.firstOpen; split <;> simp only [State.slot_mapPods]
@[simp] theorem State.audioClock_firstOpen : s.firstOpen.audioClock = s.audioClock := by
  unfold State.firstOpen; split <;> simp only [State.audioClock_mapPods]
@[simp] theorem State.storeTimeout_firstOpen : s.firstOpen.storeTimeout = s.storeTimeout := by
  unfold State.firstOpen; split <;> simp only [State.storeTimeout_mapPods]
@[simp] theorem State.store_firstOpen : s.firstOpen.store = s.store := by
  unfold State.firstOpen; split <;> simp only [State.store_mapPods]
@[simp] theorem State.commitMap_firstOpen : s.firstOpen.commitMap = s.commitMap := by
  unfold State.firstOpen; split <;> simp only [State.commitMap_mapPods]
@[simp] theorem State.storeOp_firstOpen : s.firstOpen.storeOp = s.storeOp := by
  unfold State.firstOpen; split <;> simp only [State.storeOp_mapPods]
@[simp] theorem State.lateStores_firstOpen : s.firstOpen.lateStores = s.lateStores := by
  unfold State.firstOpen; split <;> simp only [State.lateStores_mapPods]
@[simp] theorem State.lateBlocks_firstOpen : s.firstOpen.lateBlocks = s.lateBlocks := by
  unfold State.firstOpen; split <;> simp only [State.lateBlocks_mapPods]
@[simp] theorem State.lastResult_firstOpen : s.firstOpen.lastResult = s.lastResult := by
  unfold State.firstOpen; split <;> simp only [State.lastResult_mapPods]
@[simp] theorem State.installer_firstOpen : s.firstOpen.installer = s.installer := by
  unfold State.firstOpen; split <;> simp only [State.installer_mapPods]
@[simp] theorem State.freeCount_firstOpen : s.firstOpen.freeCount = s.freeCount := by
  unfold State.firstOpen; split <;> simp only [State.freeCount_mapPods]

@[simp] theorem State.leg_closeLegs (pick : LegId → Bool) : (s.closeLegs pick).leg m =
    if pick m && (s.leg m).active then (s.leg m).close s.tuning.closeDropLegHolds else s.leg m := by
  have hl : ∀ t : State, t.lastClose.leg m = t.leg m := by
    intro t; unfold State.lastClose; split
    · rw [show ∀ u : State, ∀ x, ({ u with privacy := x } : State).leg m = u.leg m from fun _ _ => rfl]; simp
    · simp
  unfold State.closeLegs
  simp only
  split
  · rw [hl, State.leg_mapLegs]
  · rw [State.leg_mapLegs]

@[simp] theorem State.leg_lastClose : s.lastClose.leg m = s.leg m := by simp only [State.leg, State.legs_lastClose]
@[simp] theorem State.port_lastClose : s.lastClose.port q = s.port q := by simp only [State.port, State.ports_lastClose]
@[simp] theorem State.port_closeLegs (pick : LegId → Bool) : (s.closeLegs pick).port q = s.port q := by
  simp only [State.port, State.ports_closeLegs]
@[simp] theorem State.leg_firstOpen : s.firstOpen.leg m = s.leg m := by simp only [State.leg, State.legs_firstOpen]
@[simp] theorem State.port_firstOpen : s.firstOpen.port q = s.port q := by simp only [State.port, State.ports_firstOpen]

/-- The last-close point drops CALL's and the pods' own holds as the flags say (R123). -/
@[simp] theorem State.pod_lastClose : s.lastClose.pod p =
    { s.pod p with holds := (s.pod p).holds.afterLastClose s.tuning } := by
  unfold State.lastClose; simp only; split <;> simp

/-- The last-close point ends privacy under LAST_CLOSE_END_PRIVACY (R123). -/
@[simp] theorem State.privacy_lastClose :
    s.lastClose.privacy = if s.tuning.lastCloseEndPrivacy then none else s.privacy := by
  unfold State.lastClose; simp only; split <;> simp

/-- A first open adds POD to every listed pod under FIRST_OPEN_MUTE_PODS (R124). -/
@[simp] theorem State.pod_firstOpen : s.firstOpen.pod p =
    if s.tuning.firstOpenMutePods && (s.pod p).listed then
      { s.pod p with holds := { (s.pod p).holds with pod := true } } else s.pod p := by
  unfold State.firstOpen
  cases s.tuning.firstOpenMutePods
  · simp
  · simp

/-- Whether closing the legs a test picks is a last close: one of them is closed and none stays OPEN or HELD (R123). -/
def State.lastCloses (s : State) (pick : LegId → Bool) : Bool :=
  (allLegs.any fun m => pick m && (s.leg m).active) && allLegs.all fun m => pick m || !(s.leg m).active

/-- What closing legs does to a pod and to privacy: the last-close point's effects when the close is a last close. -/
theorem State.closeLegs_lastClose (pick : LegId → Bool) :
    (s.closeLegs pick).pod p = (if s.lastCloses pick then s.lastClose.pod p else s.pod p) ∧
    (s.closeLegs pick).privacy = (if s.lastCloses pick then s.lastClose.privacy else s.privacy) := by
  have ha : ∀ m, ((s.mapLegs fun m leg => if pick m && (s.leg m).active then leg.close s.tuning.closeDropLegHolds else leg).leg
      m).active = ((s.leg m).active && !pick m) := by
    intro m
    simp only [State.leg_mapLegs]
    cases hp : pick m <;> cases hl : (s.leg m).active <;> simp [Leg.close, Leg.active] <;>
      simpa [Leg.active] using hl
  have hl : (allLegs.any (fun m => pick m && (s.leg m).active) &&
      !(s.mapLegs fun m leg => if pick m && (s.leg m).active then leg.close s.tuning.closeDropLegHolds else leg).anyLegActive)
      = s.lastCloses pick := by
    simp only [State.lastCloses, State.anyLegActive, ha]
    congr 1
    rw [List.not_any_eq_all_not]
    congr 1
    funext m
    cases pick m <;> cases (s.leg m).active <;> rfl
  unfold State.closeLegs
  simp only [hl]
  split <;> simp

end

/-! ### The receiver of the pod link (R130) -/

/-- PL's receiver between characters: whether it waits for 1 after a bad stop bit. -/
def receiverAfter (bad : Bool) : Receiver := if bad then .waiting else .looking

/-- The eleven bits of a character are received as that character. -/
theorem Receiver.receive_characterBits (b : Byte) (marker stop : Bool) (line : List Bool) :
    Receiver.looking.receive (characterBits b marker stop ++ line) =
      ⟨b, marker, stop⟩ :: (receiverAfter (!stop)).receive line := by
  have data : byteOfBits [b.getLsbD 0, b.getLsbD 1, b.getLsbD 2, b.getLsbD 3, b.getLsbD 4, b.getLsbD 5, b.getLsbD 6,
      b.getLsbD 7] = b := by
    revert b; decide +kernel
  simp only [BitVec.getLsbD_eq_getElem, Nat.reduceLT] at data
  cases stop <;> simp [characterBits, Receiver.receive, Receiver.sample, charOfBits, receiverAfter, data]

/-- A receiver that looks for a start bit passes over the line's rest. -/
theorem Receiver.receive_rest (n : Nat) (line : List Bool) :
    Receiver.looking.receive (List.replicate n true ++ line) = Receiver.looking.receive line := by
  induction n with
  | zero => rfl
  | succ n ih => simpa [List.replicate_succ, Receiver.receive, Receiver.sample] using ih

/-- After a bad stop bit the receiver passes over the line up to its return to 1. -/
theorem Receiver.receive_low (n : Nat) (line : List Bool) :
    Receiver.waiting.receive (List.replicate n false ++ true :: line) = Receiver.looking.receive line := by
  induction n with
  | zero => simp [Receiver.receive, Receiver.sample]
  | succ n ih => simpa [List.replicate_succ, Receiver.receive, Receiver.sample] using ih

/-- What the receiver finds in the levels of characters: those characters, and then what the rest of the line holds. -/
theorem receive_levelsOf (bad : Bool) (us : List LineSegment) (line : List Bool) :
    (receiverAfter bad).receive (levelsOf bad us ++ line) =
      us.map (fun u => ⟨u.data, u.marker, u.stop⟩) ++
        (receiverAfter (us.foldl (fun _ u => !u.stop) bad)).receive line := by
  induction us generalizing bad with
  | nil => simp [levelsOf]
  | cons u us ih =>
    have looking : (receiverAfter false) = .looking := rfl
    have waiting : (receiverAfter true) = .waiting := rfl
    cases bad <;>
      simp only [levelsOf, looking, waiting, if_true, Bool.false_eq_true, if_false, List.nil_append, List.append_assoc,
        Receiver.receive_low, Receiver.receive_rest, Receiver.receive_characterBits,
        ih (!u.stop), List.map_cons, List.cons_append, List.foldl_cons]

/-- Reception begins with the receiver looking for a start bit. -/
theorem charsOn_eq (line : List Bool) : charsOn line = (receiverAfter false).receive line := rfl

/-- No character is complete in fewer than eleven bit times. -/
theorem Receiver.receive_short (bad : Bool) (line : List Bool) (h : line.length < 11) :
    (receiverAfter bad).receive line = [] := by
  have step : ∀ (line bits : List Bool), bits.length + line.length < 10 →
      (Receiver.taking bits).receive line = [] := by
    intro line
    induction line with
    | nil => intros; rfl
    | cons b line ih =>
      intro bits h
      simp only [List.length_cons] at h
      simp only [Receiver.receive, Receiver.sample, show bits.length < 9 by omega, if_true]
      simpa using ih (bits ++ [b]) (by simp; omega)
  induction line generalizing bad with
  | nil => rfl
  | cons b line ih =>
    simp only [List.length_cons] at h
    cases bad <;> cases b
    · simpa [receiverAfter, Receiver.receive, Receiver.sample] using step line [] (by simp; omega)
    · simpa [receiverAfter, Receiver.receive, Receiver.sample] using ih false (by omega)
    · simpa [receiverAfter, Receiver.receive, Receiver.sample] using ih true (by omega)
    · simpa [receiverAfter, Receiver.receive, Receiver.sample] using ih false (by omega)

/-- What PL drives for characters of its own is what `sentLevels` says. -/
theorem drive_sentChars (chars : List (Bool × Byte)) :
    drive (chars.map fun (marker, data) => sentChar marker data) = sentLevels chars := by
  simp only [drive, sentLevels, List.flatMap_map, List.map_flatMap]
  rfl

/-- The poll that a slot begins with puts out what `pollLevels` says. -/
theorem drive_pollOf (p : PodId) (pattern : Pattern) : drive (pollOf p pattern) = pollLevels p pattern :=
  drive_sentChars [(true, _), (false, _), (false, _), (false, _)]

/-! ### The wires of the controller ports and of the audio lanes (R109, R147) -/

/-- The bits of a number are those it was made of. -/
theorem numberOfBits_testBit (bits : List Bool) (i : Nat) : (numberOfBits bits).testBit i = bits.getD i false := by
  induction bits generalizing i with
  | nil => simp [numberOfBits]
  | cons b bits ih =>
    have h : numberOfBits (b :: bits) = 2 * numberOfBits bits + b.toNat := rfl
    rw [h]
    cases i with
    | zero => cases b <;> simp [Nat.testBit_zero]
    | succ i =>
      rw [Nat.testBit_succ, show (2 * numberOfBits bits + b.toNat) / 2 = numberOfBits bits by have := Bool.toNat_lt b; omega]
      simpa using ih i

/-- A data wire carries the bits of bytes as `wireBits` says. -/
theorem wireLevels_eq (bytes : List Byte) : wireLevels bytes = wireBits bytes := rfl

theorem wireBits_length (bytes : List Byte) : (wireBits bytes).length = 8 * bytes.length := by
  induction bytes with
  | nil => rfl
  | cons b bytes ih => simp only [wireBits, List.flatMap_cons, List.length_append, List.length_cons, List.length_nil] at ih ⊢; omega

/-- The bytes that whole bytes and less than one more carry: the whole ones (R147; log 20). -/
theorem bytesClocked_wireBits (bytes : List Byte) (part : List Bool) (h : part.length < 8) :
    bytesClocked (wireBits bytes ++ part) = bytes := by
  induction bytes with
  | nil =>
    match part, h with
    | [], _ | [_], _ | [_, _], _ | [_, _, _], _ | [_, _, _, _], _ | [_, _, _, _, _], _ | [_, _, _, _, _, _], _
    | [_, _, _, _, _, _, _], _ => rfl
  | cons b bytes ih =>
    have data : byteOfBits [b.getLsbD 0, b.getLsbD 1, b.getLsbD 2, b.getLsbD 3, b.getLsbD 4, b.getLsbD 5, b.getLsbD 6,
        b.getLsbD 7] = b := by
      revert b; decide +kernel
    exact congrArg₂ List.cons data ih

/-- What the part's data wire carries: the frame's bits and then 0 (R147). -/
theorem shiftedOut_eq (frame : List Byte) (clocks : Nat) :
    shiftedOut frame clocks = (wireBits frame ++ List.replicate clocks false).take clocks := by
  rw [shiftedOut, wireLevels_eq, List.take_append, List.take_replicate]
  congr 2
  omega

/-- The bits of a slot on an input wire, most significant first, are its levels at the slot's bit clocks (R109). -/
theorem slotWord_getMsbD (levels : List Bool) (slot i : Nat) (hi : i < 32) (b : Bool)
    (h : levels[32 * slot + i]? = some b) (full : 32 * slot + 32 ≤ levels.length) :
    (slotWord levels slot).getMsbD i = b := by
  have len : ((levels.drop (32 * slot)).take 32).length = 32 := by simp; omega
  rw [slotWord, BitVec.getMsbD_eq_getLsbD]
  simp only [hi, decide_true, Bool.true_and, BitVec.getLsbD_ofNat, show 32 - 1 - i < 32 by omega, numberOfBits_testBit]
  rw [List.getD_eq_getElem?_getD, List.getElem?_reverse (by omega), len, List.getElem?_take_of_lt (by omega),
    List.getElem?_drop, show 32 * slot + (32 - 1 - (32 - 1 - i)) = 32 * slot + i by omega, h]
  rfl

/-- The slots of a complete sample period are those its bit clocks shift in (R109). -/
theorem slotsClocked_shiftedIn (clocks : List LaneClock) (h : 256 ≤ clocks.length) : shiftedIn clocks (slotsClocked clocks) := by
  intro slot i hi c hc
  have full : 32 * slot.val + 32 ≤ clocks.length := by omega
  constructor
  · intro lane
    simp only [slotsClocked, Fin.getElem_fin, Vector.getElem_ofFn]
    exact slotWord_getMsbD _ _ _ hi _ (by simp [hc]) (by simpa using full)
  · simp only [slotsClocked, Fin.getElem_fin, Vector.getElem_ofFn]
    exact slotWord_getMsbD _ _ _ hi _ (by simp [hc]) (by simpa using full)

/-- A wire carries its slots one after the other, each most significant bit first (R109). -/
theorem slotLevel_slot (slots : List (BitVec 32)) (slot i : Nat) (hi : i < 32) :
    slotLevel slots (32 * slot + i) = (slots.getD slot 0).getMsbD i := by
  rw [slotLevel, show (32 * slot + i) / 32 = slot by omega, show (32 * slot + i) % 32 = i by omega]

/-- After its slots a wire is at 0 (R109). -/
theorem slotLevel_after (slots : List (BitVec 32)) (clock : Nat) (h : 32 * slots.length ≤ clock) :
    slotLevel slots clock = false := by
  rw [slotLevel, List.getD_eq_getElem?_getD, List.getElem?_eq_none (by omega)]
  simp

/-- The levels at one bit clock of a sample period of an output sample (R109). -/
theorem OutputSample.levels_at (o : OutputSample) (clocks i : Nat) (x : LaneLevels) (h : (o.levels clocks)[i]? = some x) :
    x = ⟨Vector.ofFn fun lane => slotLevel (o.podSlots lane) i, slotLevel o.legSlots i⟩ := by
  obtain ⟨hi, h⟩ := List.getElem?_eq_some_iff.1 h
  simp only [OutputSample.levels, List.getElem_map, List.getElem_range] at h
  exact h.symm

/-- What the wires carry at a bit clock of a sample period with an output sample, or without one (R109, R111). -/
theorem levelsAt_low (frame : Option (List OutputSample)) (k clocks i : Nat) (x : LaneLevels)
    (h : (levelsAt frame k clocks)[i]? = some x) (low : 256 ≤ i ∨ (frame.bind fun f => f[k]?) = none) : x = LaneLevels.low := by
  unfold levelsAt at h
  cases hf : frame.bind fun f => f[k]? with
  | none =>
    rw [hf] at h
    exact (List.mem_replicate.1 (List.mem_of_getElem? h)).2
  | some o =>
    rw [hf] at h
    have hi : 256 ≤ i := low.resolve_right (by simp [hf])
    rw [o.levels_at _ _ _ h, slotLevel_after _ _ (by simp [OutputSample.legSlots, allLegs]; omega)]
    have : (fun lane => slotLevel (o.podSlots lane) i) = fun _ => false := by
      funext lane
      exact slotLevel_after _ _ (by simp [OutputSample.podSlots]; omega)
    rw [this]
    decide

/-- One level for each bit clock. -/
theorem levelsAt_length (frame : Option (List OutputSample)) (k clocks : Nat) : (levelsAt frame k clocks).length = clocks := by
  unfold levelsAt
  cases frame.bind fun f => f[k]? <;> simp [silentFor, OutputSample.levels]

/-- What the wires carry at the bit clocks of the sample period under way, once those that have passed are counted (R109, R111, R114). -/
theorem State.levelsFor_carriesIndex (s : State) (clocks : Nat) (passed : s.underway.length ≤ clocks) (few : s.underway.length ≤ 256) :
    carriesIndex (s.levelsFor clocks) s.underway s.inProgress s.assembly.length clocks := by
  have later : ∀ i x, s.underway.length ≤ i → (s.levelsFor clocks)[i]? = some x →
      (levelsAt s.inProgress s.assembly.length clocks)[i]? = some x := by
    intro i x hi h
    rw [State.levelsFor, List.getElem?_append_right hi, List.getElem?_drop] at h
    rwa [show s.underway.length + (i - s.underway.length) = i by omega] at h
  refine ⟨by simp [State.levelsFor, levelsAt_length]; omega, ⟨_, rfl⟩,
    fun i x hi hx => levelsAt_low _ _ _ _ _ (later i x (by omega) hx) (.inl hi), ?_⟩
  cases hf : s.inProgress.bind fun f => f[s.assembly.length]? with
  | none => exact fun i x hi hx => levelsAt_low _ _ _ _ _ (later i x hi hx) (.inr hf)
  | some o =>
    have level : ∀ i x, s.underway.length ≤ i → (s.levelsFor clocks)[i]? = some x →
        x = ⟨Vector.ofFn fun lane => slotLevel (o.podSlots lane) i, slotLevel o.legSlots i⟩ := by
      intro i x hi hx
      have := later i x hi hx
      simp only [levelsAt, hf] at this
      exact o.levels_at _ _ _ this
    have leg : ∀ slot, carriesSlot (s.levelsFor clocks) s.underway.length LaneLevels.legOut slot (o.legSlots.getD slot 0) := by
      intro slot i hi hp x hx
      rw [level _ _ hp hx]
      exact slotLevel_slot _ _ _ hi
    refine ⟨fun p i hi hq x hx => ?_, fun m => ?_, leg 4, fun slot hs => ?_⟩
    · have hp : 8 * (p.val / 8) + p.val % 8 = p.val := by omega
      rw [level _ _ hq hx]
      simp only [Vector.getElem_ofFn, slotLevel_slot _ _ _ hi]
      simp [OutputSample.podSlots, sampleSlot, show p.val % 8 < 8 by omega, hp]
    · have := leg m.val
      fin_cases m <;> exact this
    · have := leg slot
      simp only [List.mem_cons, List.not_mem_nil, or_false] at hs
      rcases hs with rfl | rfl | rfl <;> exact this

/-- A broken period has fewer than 256 bit clocks, and no fewer than are known to have passed (R112; log 21). -/
theorem State.clocksArrived_bounds (s : State) (h : s.underway.length < 256) :
    s.underway.length ≤ s.clocksArrived ∧ s.clocksArrived < 256 := by
  have := Nat.mod_lt (Config.clocksArrived s.freeCount) (show 0 < periodClocks - s.underway.length by simp [periodClocks]; omega)
  simp only [State.clocksArrived, periodClocks] at this ⊢
  omega

end Sys2Proof.Machine
end

