-- ==== Sys2Proof/Tests/Slice0.lean ====
section
/-! SUPPORT. The model's own tests: one step each, with the result that the manual's worked examples, tables and formulas give; and for each statement with hypotheses a named state and operands that meet them. -/

open Sys2Proof Sys2Proof.Machine

namespace Sys2Proof.Tests

set_option Elab.async false

/-! ## Helpers -/

/-- The state a command leaves. -/
def after (o : Result) : State :=
  match o with
  | .next t => t
  | _ => State.reset

/-- A command leaves a state that passes a test. -/
def gives (o : Result) (test : State → Bool) : Bool :=
  match o with
  | .next t => test t
  | _ => false

/-- Port 0 CALL, port 1 ROOM and port 2 VIEW, each ATTACHED and watching every category. -/
def staffed : State := { State.reset with
  ports := Vector.ofFn fun q => { Port.base with
    state := .attached, role := some (if q = 0 then .call else if q = 1 then .room else .view), timer := some 1
    mask := 0b1111111#7 } }

/-- The same room with every pod ONLINE, held by nobody, and every mute envelope at unity. -/
def talkRoom : State := staffed.mapPods fun _ pod => { pod with
  holds := HoldSet.empty, link := .online, baselines := some ⟨0, 0⟩, muteEnv := Ramp.flat 65536, pattern := .live }

/-- The state with one frame at the head of a port's request queue. -/
def ask (s : State) (q : PortId) (f : RequestFrame) : State := s.modPort q fun port => { port with requests := [f] }

/-- The status and payload of the reply that a request gives last at its port. -/
def answered (o : Result) (q : PortId) (status : Status) (payload : List Byte) : Bool :=
  gives o fun t => ((t.port q).replies.getLast?.map fun r => (r.status, r.payload)) == some (status, payload)

/-- A hold set by its members. -/
def holding (pod room call link : Bool) : HoldSet := ⟨pod, room, call, link⟩

/-- A sample period that carries these pod and leg samples, in the slots of Table 6-1. -/
def period (pods : List (PodId × Int)) (legs : List (LegId × Int)) : LaneInput where
  podIn := Vector.ofFn fun i => Vector.ofFn fun j =>
    BitVec.ofInt 32 (256 * ((pods.find? fun x => x.1.val == 8 * i.val + j.val).map Prod.snd).getD 0)
  legIn := Vector.ofFn fun j => BitVec.ofInt 32 (256 * ((legs.find? fun x => x.1.val == j.val).map Prod.snd).getD 0)

/-- The bit clocks that carry such a sample period, and this many more at 1. -/
def clocksOf (l : LaneInput) (more : Nat) : List LaneClock :=
  (List.finRange 8).flatMap (fun slot => (List.finRange 32).map fun i =>
    ⟨Vector.ofFn fun lane => l.podIn[lane][slot].getMsbD i.val, l.legIn[slot].getMsbD i.val⟩) ++
    List.replicate more ⟨Vector.replicate 3 true, true⟩

/-- A frame of 48 such sample periods. -/
def frameOf (l : LaneInput) : WorkFrame := ⟨List.replicate 48 l, true⟩

/-! ## Well-formedness and decoding -/

theorem test_ill_formed_commands_are_refused :
    (Instr.shortPress 0).wellFormed = false ∧ (Instr.shortPress 25).wellFormed = false ∧
    (Instr.longPress 0).wellFormed = false ∧ (Instr.longPress 25).wellFormed = false ∧
    (Instr.samplePeriodComplete (List.replicate 255 ⟨Vector.replicate 3 true, true⟩)).wellFormed = false ∧
    (Instr.shortPress 24).wellFormed = true ∧ (Instr.longPress 1).wellFormed = true := by decide +kernel

/-- The opcode table gives no row any bits. -/
theorem test_no_word_spells_a_command : decodeTableWord 8 0x01 = none ∧ decodeTableWord 32 0xFFFFFFFF = none := by decide

/-- Table 12-4, Table 9-3: the row of a frame follows its code and, where the table has rows for its forms, its first operand or its length. -/
theorem test_rows_of_frames :
    (goodFrame 0x10 [0, 0x28]).row = .holdOnPods ∧ (goodFrame 0x10 [2, 4]).row = .holdOnLegs ∧
    (goodFrame 0x30 [2, 0, 0, 0, 0]).row = .gainLegGain ∧ (goodFrame 0x31 [4]).row = .tuneQuery ∧
    (goodFrame 0x31 [4, 0, 0, 0]).row = .tuneSet ∧ (goodFrame 0x32 [3, 1, 1]).row = .rosterClass ∧
    (goodFrame 0x46 []).row = .readRoom ∧ (goodFrame 0x07 []).row = .unknown ∧
    (⟨0x10, [], some .check⟩ : RequestFrame).row = .badFrame := by decide

/-! ## Resets -/

/-- Section 11.7: a load of S3 with pod 2's trim of 98,304 at addresses 259 to 261 and no other byte written gives every other trim and gain its upper bound. -/
theorem test_powerUp_loads_stored_gains :
    gives (exec (.powerUp false) { State.reset with store := [(259, 0x01), (260, 0x80), (261, 0x00)], commitMap := 0x08 })
      (fun t => (t.pod 1).trim == 98304 && (t.pod 5).trim == 131072 && (t.pod 5).volume == 65536 &&
        (t.leg 3).gain == 131072 && (t.pod 5).cls == 1 && t.tuning.gateHold == 400) = true := by decide

/-- Section 13.1: S1 committed with roster {1, 2, 3, 4} and chair set {1, 2}. -/
theorem test_resetN_loads_the_roster :
    gives (exec .resetN { talkRoom with
        installer := true, commitMap := 0x02
        store := [(64, 0), (65, 0), (66, 0), (67, 0x1E), (68, 0), (69, 0), (70, 0), (71, 0x06)] })
      (fun t => (allPods.filter fun p => (t.pod p).listed) == [0, 1, 2, 3] &&
        (allPods.filter fun p => (t.pod p).chair) == [0, 1] &&
        (t.pod 3).pattern == .mutedHeld && (t.pod 4).pattern == .dark && (t.pod 3).link == .seeking &&
        (t.port 0).state == .detached && t.installer) = true := by decide

/-! ## Controller ports -/

/-- R183: the NONE frame is 0x00, the flags, 0x00, 0x00 and its check, which is 0 over four bytes of 0. -/
theorem test_selection_of_an_empty_queue :
    gives (exec (.selection 2) State.reset) (fun t =>
      (t.port 2).transaction == some ⟨[0, 0, 0, 0, 0], false, false, false⟩) = true := by decide +kernel

/-- Section 9.3: PULSE with phase 0 is 0x03, 0x01, 0x00 with check 0x3E. -/
theorem test_deselection_receives_a_pulse :
    gives (exec (.deselection 0 (wireBits [0x03, 0x01, 0x00, 0x3E])) (after (exec (.selection 0) State.reset)))
      (fun t => (t.port 0).requests == [⟨0x03, [0x00], none⟩]) = true := by decide +kernel

/-- Table 9-5: while two frames wait, a third is discarded and the overrun flag is set. -/
theorem test_deselection_overruns :
    gives (exec (.deselection 1 (wireBits [0x03, 0x01, 0x00, 0x3E] ++ [true, true]))
        (after (exec (.selection 1) (staffed.modPort 1 fun port =>
          { port with requests := [goodFrame 0x46 [], goodFrame 0x03 [0]] }))))
      (fun t => (t.port 1).requests == [goodFrame 0x46 [], goodFrame 0x03 [0]] && (t.port 1).overrun) = true := by decide +kernel

/-- Four replies with nothing in them. -/
def four : List Reply := List.replicate 4 ⟨.done, 0x42, []⟩

/-- Table 9-5: once A has left, READ_ROOM is taken at once and its reply joins the tail; the overrun flag it carried is clear. -/
theorem test_replyFullyShiftedOut_takes_the_waiting_request :
    gives (exec (.replyFullyShiftedOut 1) (staffed.modPort 1 fun port => { port with
        requests := [goodFrame 0x46 [], goodFrame 0x03 [0]], replies := four, overrun := true, attention := true
        transaction := some ⟨[1, 1, 0x42, 0, 0], true, true, false⟩ }))
      (fun t => (t.port 1).requests == [goodFrame 0x03 [0]] && !(t.port 1).overrun && (t.port 1).attention &&
        ((t.port 1).replies.map Reply.echo) == [0x42, 0x42, 0x42, 0x46]) = true := by decide

theorem test_badFrame_is_answered_with_its_reason :
    answered (exec (.badFrame 0) (ask State.reset 0 ⟨0x10, [], some .check⟩)) 0 (.refused .check) [] = true := by decide

theorem test_unknown_code_is_answered_unknown :
    answered (exec (.unknown 0) (ask State.reset 0 (goodFrame 0x07 []))) 0 (.refused .unknown) [] = true := by decide

theorem test_join_claims_room :
    gives (exec (.join 2) (ask State.reset 2 (goodFrame 0x01 [1])))
      (fun t => (t.port 2).state == .attached && (t.port 2).role == some .room && (t.port 2).timer == some 1 &&
        (t.port 2).mask == 0x7F#7) = true := by decide

theorem test_join_of_a_held_role_is_refused :
    answered (exec (.join 2) (ask (staffed.modPort 2 fun _ => Port.base) 2 (goodFrame 0x01 [0]))) 2
      (.refused .roleTaken) [] = true := by decide

/-- Section 7.7 before the vacancy. -/
def lostCall : State :=
  let s := { talkRoom with
    privacy := some .call, tuning := { talkRoom.tuning with flush := 0b01011#5 }
    legs := Vector.ofFn fun m =>
      if m = 0 then { Leg.base with state := .opened, receiveHolds := ⟨true, false⟩ }
      else if m = 2 then { Leg.base with state := .held, sendHolds := ⟨false, true⟩ }
      else if m = 3 then { Leg.base with sendHolds := ⟨false, true⟩ } else Leg.base }
  s.modPod 4 fun pod => { pod with holds := holding false false true false }

/-- Table 7-6, "After LEAVE instead". -/
theorem test_leave_of_call :
    gives (exec (.leave 0) (ask lostCall 0 (goodFrame 0x02 [])))
      (fun t => (allLegs.all fun m => (t.leg m).state == .closed) && (t.leg 0).receiveHolds == LegHolds.empty &&
        (t.leg 2).sendHolds == LegHolds.empty && (t.leg 3).sendHolds == LegHolds.empty &&
        (t.pod 4).holds == HoldSet.empty && t.privacy == none && t.unmuted 4 &&
        (t.port 1).pendingSet == 0b0011001#7) = true := by decide

/-- Table 7-6, "After ABSENT": the send hold of leg 3, which was CLOSED, stays. -/
theorem test_presenceTimerExpiry_makes_absent :
    gives (exec (.presenceTimerExpiry 0) (lostCall.modPort 0 fun port => { port with state := .stale }))
      (fun t => (t.port 0).state == .absent && (t.leg 2).sendHolds == LegHolds.empty &&
        (t.leg 3).sendHolds == ⟨false, true⟩ && (t.pod 4).holds == HoldSet.empty && t.privacy == none &&
        (t.port 1).pendingSet == 0b0111001#7) = true := by decide

theorem test_pulse_that_repeats_is_refused :
    answered (exec (.pulse 1) (ask staffed 1 (goodFrame 0x03 [1]))) 1 (.refused .repeated) [] = true := by decide

theorem test_notices_returns_and_empties :
    gives (exec (.notices 1) (ask (staffed.modPort 1 fun port => { port with pendingSet := 0b0010001#7 }) 1
        (goodFrame 0x04 [])))
      (fun t => (t.port 1).pendingSet == 0#7 && (t.port 1).replies == [⟨.done, 0x04, [0x11]⟩]) = true := by decide

theorem test_watch_drops_bit_7 :
    answered (exec (.watch 1) (ask staffed 1 (goodFrame 0x05 [0xFF]))) 1 .clamped [0x7F] = true := by decide

/-- R162, Table 12-8: 2404 is 0x0964; revision 1; port 1, ATTACHED, ROOM, PRESENCE code 1. -/
theorem test_ident_payload :
    answered (exec (.ident 1) (ask staffed 1 (goodFrame 0x06 []))) 1 .done [0x09, 0x64, 1, 1, 1, 1, 1] = true := by decide

/-! ## Mute authority -/

/-- R25: pods 2, 9 and 25 are named by ROOM and pod 9 is not listed. -/
theorem test_holdOnPods_clamps :
    (answered (exec (.holdOnPods 1) (ask (talkRoom.modPod 8 fun _ => Pod.base 8) 1 (goodFrame 0x10 [0, 2, 0, 2, 4]))) 1
      .clamped [0, 0, 0, 0, 4] &&
    gives (exec (.holdOnPods 1) (ask (talkRoom.modPod 8 fun _ => Pod.base 8) 1 (goodFrame 0x10 [0, 2, 0, 2, 4])))
      (fun t => (t.pod 1).holds == holding false true false false && (t.pod 8).holds == HoldSet.empty)) = true := by decide +kernel

/-- Table 3-7: HOLD_ON RECEIVE {2} by CALL. -/
theorem test_holdOnLegs_receive :
    gives (exec (.holdOnLegs 0) (ask talkRoom 0 (goodFrame 0x10 [2, 4])))
      (fun t => (t.leg 2).receiveHolds == ⟨false, true⟩ && (t.leg 2).sendHolds == LegHolds.empty &&
        (t.leg 1).receiveHolds == LegHolds.empty) = true := by decide

/-- Table 3-5: HOLD_OFF by ROOM with M at 40,960 unmutes pod 3, which shows LIVE. -/
theorem test_holdOff_unmutes :
    gives (exec (.holdOff 1) (ask (talkRoom.modPod 2 fun pod => { pod with
        holds := holding false true false false, muteEnv := ⟨49152, 40960⟩ }) 1 (goodFrame 0x11 [0, 8])))
      (fun t => t.unmuted 2 && (t.pod 2).pattern == .live && (t.pod 2).muteEnv == ⟨49152, 40960⟩) = true := by decide +kernel

/-- Section 2.9: RELEASE_ALL with {4} empties pod 4's orphaned {CALL}. -/
theorem test_releaseAll_empties :
    gives (exec (.releaseAll 1) (ask (talkRoom.modPod 3 fun pod => { pod with holds := holding false false true false }) 1
        (goodFrame 0x12 [0x10])))
      (fun t => (t.pod 3).holds == HoldSet.empty && (t.port 0).pendingSet == 0b0000001#7) = true := by decide +kernel

/-- Section 13.2: PRIVACY_ON from ROOM during privacy set by a chair pod makes the SETTER ROOM. -/
theorem test_privacyOn_takes_the_setter :
    gives (exec (.privacyOn 1) (ask { talkRoom with privacy := some (.chair 0) } 1 (goodFrame 0x13 [])))
      (fun t => t.privacy == some .room) = true := by decide

/-- Table 2-8: after PRIVACY_OFF pod 2's orphaned {CALL} still mutes it, and pod 1 is unmuted. -/
theorem test_privacyOff_unmutes :
    gives (exec (.privacyOff 1) (ask ({ talkRoom with privacy := some .call }.modPod 1 fun pod =>
        { pod with holds := holding false false true false }) 1 (goodFrame 0x14 [])))
      (fun t => t.privacy == none && t.unmuted 0 && t.muted 1) = true := by decide

/-- Table 2-5, press 1: muted, POD absent, POD_OVERRIDE 1. -/
theorem test_shortPress_overrides :
    gives (exec (.shortPress 12) ({ talkRoom with tuning := { talkRoom.tuning with podOverride := 1 } }.modPod 11 fun pod =>
        { pod with holds := holding false false true false, shortDue := 3 }))
      (fun t => (t.pod 11).holds == HoldSet.empty && (t.pod 11).shortDue == 2 &&
        (t.port 1).pendingSet == 0b0000001#7) = true := by decide

/-- Section 2.8: with POD_OVERRIDE 0 the press is ignored and raises nothing. -/
theorem test_shortPress_is_ignored :
    gives (exec (.shortPress 12) (talkRoom.modPod 11 fun pod =>
        { pod with holds := holding false false true false, shortDue := 3 }))
      (fun t => (t.pod 11).holds == holding false false true false && (t.port 1).pendingSet == 0#7) = true := by decide

/-- Table 13-3: the long press of chair pod 1 sets privacy; pod 8's entry leaves the talker list. -/
theorem test_longPress_sets_privacy :
    gives (exec (.longPress 1) ({ talkRoom with talkers := [⟨7, .opened, 1, 9⟩] }.modPod 0 fun pod =>
        { pod with chair := true, longDue := 1 }))
      (fun t => t.privacy == some (.chair 0) && t.talkers == [] && (t.pod 7).pattern == .live &&
        (t.port 1).pendingSet == 0b0000011#7) = true := by decide

/-! ## Legs -/

/-- Section 7.6: four listed pods, pod 2 held by CALL, FLUSH with FIRST_OPEN_MUTE_PODS. -/
def fourPods : State :=
  let s := { talkRoom with tuning := { talkRoom.tuning with flush := 0b10011#5 } }
  s.mapPods fun p pod => if 4 ≤ p.val then Pod.base p
    else if p = 1 then { pod with holds := holding false false true false } else pod

/-- Table 7-5: the first open. -/
theorem test_legState_first_open :
    gives (exec (.legState 0) (ask fourPods 0 (goodFrame 0x20 [0, 1])))
      (fun t => (t.leg 0).state == .opened && (t.pod 0).holds == holding true false false false &&
        (t.pod 1).holds == holding true false true false && (t.pod 4).holds == HoldSet.empty &&
        (t.port 2).pendingSet == 0b0001001#7) = true := by decide

/-- Table 7-5: the last close. -/
theorem test_legState_last_close :
    gives (exec (.legState 0) (ask { fourPods with legs := Vector.ofFn fun m => if m = 1 then { Leg.base with
        state := .held, sendHolds := ⟨false, true⟩, receiveEnv := Ramp.flat 65536 } else Leg.base } 0
        (goodFrame 0x20 [1, 0])))
      (fun t => (t.leg 1).state == .closed && (t.leg 1).sendHolds == LegHolds.empty &&
        (t.leg 1).receiveEnv == Ramp.flat 0 && (t.pod 1).holds == HoldSet.empty &&
        (t.port 2).pendingSet == 0b0001001#7) = true := by decide

/-! ## Room tables -/

/-- R12: 200,000 is 0x030D40 and 131,072 is 0x020000. -/
theorem test_gainTrim_clamps :
    (answered (exec (.gainTrim 1) (ask staffed 1 (goodFrame 0x30 [0, 3, 0x03, 0x0D, 0x40]))) 1 .clamped
      [0, 3, 0x02, 0, 0] &&
    gives (exec (.gainTrim 1) (ask staffed 1 (goodFrame 0x30 [0, 3, 0x03, 0x0D, 0x40])))
      (fun t => (t.pod 2).trim == 131072 && (t.pod 3).trim == 65536)) = true := by decide

theorem test_gainVolume_clamps :
    answered (exec (.gainVolume 1) (ask staffed 1 (goodFrame 0x30 [1, 24, 0x01, 0x00, 0x01]))) 1 .clamped
      [1, 24, 0x01, 0, 0] = true := by decide

/-- R12: LEG_GAIN is permitted to CALL. -/
theorem test_gainLegGain_from_call :
    gives (exec (.gainLegGain 0) (ask staffed 0 (goodFrame 0x30 [2, 1, 0, 0x80, 0])))
      (fun t => (t.leg 1).gain == 32768 && (t.leg 0).gain == 65536) = true := by decide

/-- R5: TUNE with id 4 and value 5,000 (0x1388) sets GATE_HOLD to 2,000 (0x07D0). -/
theorem test_tuneSet_clamps :
    answered (exec (.tuneSet 1) (ask staffed 1 (goodFrame 0x31 [4, 0, 0x13, 0x88]))) 1 .clamped [4, 0, 0x07, 0xD0] = true := by
  decide

/-- Table 1-5. -/
def fullList : State := { talkRoom with talkers :=
  [⟨2, .opened, 1, 100⟩, ⟨4, .opened, 2, 140⟩, ⟨8, .hold 212, 1, 150⟩, ⟨10, .opened, 1, 200⟩] }.modPod 4 fun pod =>
    { pod with cls := 2 }

/-- Table 1-6: OPEN_LIMIT 2 leaves pods 3 and 5. -/
theorem test_tuneSet_cuts_the_list :
    gives (exec (.tuneSet 1) (ask fullList 1 (goodFrame 0x31 [1, 0, 0, 2])))
      (fun t => t.talkers == [⟨2, .opened, 1, 100⟩, ⟨4, .opened, 2, 140⟩] && (t.pod 8).gate == .closed &&
        nomTarget t.talkers.length == 46341 && (t.port 2).pendingSet == 0b0000010#7) = true := by decide

theorem test_tuneQuery_of_flush :
    answered (exec (.tuneQuery 2) (ask staffed 2 (goodFrame 0x31 [14]))) 2 .done [14, 0, 0, 3] = true := by decide

/-- Table 8-3, s2: a pod listed is SEEKING, holds {LINK} and shows MUTED_HELD. -/
theorem test_rosterList_lists :
    gives (exec (.rosterList 1) (ask (talkRoom.modPod 6 fun _ => Pod.base 6) 1 (goodFrame 0x32 [0, 0x80])))
      (fun t => (t.pod 6).listed && (t.pod 6).link == .seeking && (t.pod 6).holds == HoldSet.linkOnly &&
        (t.pod 6).pattern == .mutedHeld && (t.port 0).pendingSet == 0b0000101#7) = true := by decide

/-- Table 1-7: UNLIST with {5, 30} (0x40000020). -/
theorem test_rosterUnlist_clears :
    (answered (exec (.rosterUnlist 1) (ask { fullList with talkers := fullList.talkers.take 2 } 1
      (goodFrame 0x32 [1, 0x40, 0, 0, 0x20]))) 1 .clamped [1, 0, 0, 0, 0x20] &&
    gives (exec (.rosterUnlist 1) (ask { fullList with talkers := fullList.talkers.take 2 } 1
        (goodFrame 0x32 [1, 0x40, 0, 0, 0x20])))
      (fun t => t.talkers == [⟨2, .opened, 1, 100⟩] && (t.pod 4).link == .unlisted && (t.pod 4).pattern == .dark &&
        (t.pod 4).muteEnv == Ramp.flat 0 && (t.port 0).pendingSet == 0b0000110#7)) = true := by decide

/-- R9: a named pod that is not listed is dropped. -/
theorem test_rosterChair_drops_unlisted_pods :
    (answered (exec (.rosterChair 1) (ask (staffed.modPod 6 fun _ => Pod.base 6) 1 (goodFrame 0x32 [2, 1, 0x82]))) 1 .clamped
      [2, 1, 0, 0, 0, 2] &&
    gives (exec (.rosterChair 1) (ask (staffed.modPod 6 fun _ => Pod.base 6) 1 (goodFrame 0x32 [2, 1, 0x82])))
      (fun t => (t.pod 0).chair && !(t.pod 6).chair)) = true := by decide

/-- R10: a value above 3 is clamped to 3, and the talker entry follows. -/
theorem test_rosterClass_clamps :
    gives (exec (.rosterClass 1) (ask fullList 1 (goodFrame 0x32 [3, 9, 200])))
      (fun t => (t.pod 8).cls == 3 && (t.talkers.map Talker.cls) == [1, 2, 3, 1]) = true := by decide

/-- R11: pod 5 and {4, 6} give {4, 5, 6} (0x70). -/
theorem test_exclude_adds_the_pod_itself :
    answered (exec (.exclude 1) (ask staffed 1 (goodFrame 0x33 [5, 0x50]))) 1 .clamped [5, 0, 0, 0, 0x70] = true := by decide

/-! ## Reads -/

/-- Table 12-5 after reset: SEEKING, resolved-muted, {LINK}, MUTED_HELD, class 1, exclusion set {24}. -/
theorem test_readChannel_after_reset :
    answered (exec (.readChannel 1) (ask staffed 1 (goodFrame 0x40 [24]))) 1 .done
      [24, 0x05, 1, 8, 0, 0, 4, 1, 0, 0, 0, 0, 0, 1, 0, 0, 1, 0, 0, 1, 0, 0, 0, 0, 0, 0, 0, 0, 0, 0, 0, 0] = true := by
  decide

/-- Table 12-6 for pod 9 in HOLD with 400 (0x190) frames left, class 1, admitted in frame 150. -/
theorem test_readTalkers_entry :
    answered (exec (.readTalkers 2) (ask { talkRoom with talkers := [⟨8, .hold 400, 1, 150⟩] } 2 (goodFrame 0x41 []))) 2 .done
      [0x49, 0x41, 0x90, 0, 150] = true := by decide

/-- Table 12-7 after reset: four legs CLOSED with leg gain 65,536 and envelopes 0. -/
theorem test_readLegs_after_reset :
    answered (exec (.readLegs 0) (ask staffed 0 (goodFrame 0x42 []))) 0 .done
      ((List.replicate 4 [0, 1, 0, 0, 0, 0, 0, 0, 0, 0]).flatten) = true := by decide

theorem test_readPorts_of_a_staffed_room :
    answered (exec (.readPorts 2) (ask staffed 2 (goodFrame 0x43 []))) 2 .done
      [1, 0, 0x7F, 1, 1, 0x7F, 1, 2, 0x7F] = true := by decide

/-- Table 12-8: pod 3 with POD_LOST latched and present, and STORE_TIMEOUT. -/
theorem test_readFaults_of_a_lost_pod :
    answered (exec (.readFaults 1) (ask ({ staffed with storeTimeout := true }.modPod 2 fun pod =>
        { pod with podLost := ⟨true, true⟩ }) 1 (goodFrame 0x44 []))) 1 .done
      ([0, 0, 0x11] ++ List.replicate 22 0 ++ [2]) = true := by decide

/-- Tables 12-8 and 4-5: three entries give 37,837, which is 0x0093CD. -/
theorem test_readRoom_with_three_talkers :
    answered (exec (.readRoom 1) (ask { talkRoom with
        talkers := fullList.talkers.take 3, privacy := some (.chair 0), sync := .running } 1 (goodFrame 0x46 []))) 1 .done
      [0x31, 1, 3, 0, 0x93, 0xCD, 1, 0] = true := by decide

/-! ## Faults -/

/-- Table 10-2, the first CLEAR_FAULTS: {14} {POD_LOST, POD_ERRORS}; one latch cleared and one left set. -/
theorem test_clearFaults_leaves_a_present_fault :
    (answered (exec (.clearFaults 1) (ask (staffed.modPod 13 fun pod => { pod with
        link := .lost, timeouts := 255, podLost := ⟨true, true⟩, podErrors := ⟨true, true⟩ }) 1
        (goodFrame 0x45 [0, 0, 0x40, 0, 0x09]))) 1 .done [0, 0, 0x40, 0, 9, 1, 1] &&
    gives (exec (.clearFaults 1) (ask (staffed.modPod 13 fun pod => { pod with
        link := .lost, timeouts := 255, podLost := ⟨true, true⟩, podErrors := ⟨true, true⟩ }) 1
        (goodFrame 0x45 [0, 0, 0x40, 0, 0x09])))
      (fun t => (t.pod 13).timeouts == 0 && (t.pod 13).podLost == ⟨true, true⟩ &&
        (t.pod 13).podErrors == ⟨false, false⟩ && (t.port 0).pendingSet == 0b0100000#7)) = true := by decide

/-! ## Profile store -/

/-- R174: a read that would run past address 1,023 returns the bytes up to it. -/
theorem test_storeRead_stops_at_the_end :
    answered (exec (.storeRead 2) (ask { staffed with store := [(1023, 0x5A)] } 2 (goodFrame 0x50 [0x03, 0xFE, 16]))) 2
      .clamped [0x03, 0xFE, 2, 0xFF, 0x5A] = true := by decide

theorem test_storeStatus_while_erasing :
    answered (exec (.storeStatus 2) (ask { staffed with storeOp := .erasing 3 5, installer := true, commitMap := 8 } 2
      (goodFrame 0x54 []))) 2 .done [3, 3, 0, 1, 8] = true := by decide

/-- R175: STORE_WRITE at address 270 (0x010E) with 16 bytes accepts 2. -/
theorem test_storeWrite_stops_at_the_page :
    (answered (exec (.storeWrite 1) (ask staffed 1 (goodFrame 0x51 (0x01 :: 0x0E :: List.replicate 16 7)))) 1 .started
      [0x01, 0x0E, 2] &&
    gives (exec (.storeWrite 1) (ask staffed 1 (goodFrame 0x51 (0x01 :: 0x0E :: List.replicate 16 7))))
      (fun t => t.storeOp == .writing 270 [7, 7])) = true := by decide

/-- Table 11-3, the last row: PROTECTED. -/
theorem test_storeWrite_is_protected :
    answered (exec (.storeWrite 1) (ask { staffed with commitMap := 8 } 1 (goodFrame 0x51 [0x01, 0x10, 7]))) 1
      (.refused .protected_) [] = true := by decide

theorem test_storeCommit_begins :
    gives (exec (.storeCommit 1) (ask staffed 1 (goodFrame 0x52 [3])))
      (fun t => t.storeOp == .committing 3 && t.commitMap == 0) = true := by decide

theorem test_storeErase_needs_installer_mode :
    answered (exec (.storeErase 1) (ask staffed 1 (goodFrame 0x53 [3]))) 1 (.refused .notInstaller) [] = true := by decide

/-- Table 11-3: at the write's completion pod 2's trim stands at 259 to 261 and a STORE notice is raised. -/
theorem test_storeCompletion_writes :
    gives (exec .storeCompletion { staffed with storeOp := .writing 259 [0x01, 0x80, 0x00] })
      (fun t => Memory.readMany t.store 258 5 == [0xFF, 0x01, 0x80, 0x00, 0xFF] && t.storeOp == .idle &&
        (t.port 2).pendingSet == 0b1000000#7) = true := by decide

/-- R178: a commit that timed out is begun again; the completion of the first changes nothing, and the next one is that of the second. -/
theorem test_storeCompletion_after_a_timeout :
    gives (exec .operationTimeout { staffed with storeOp := .committing 3 })
      (fun s => s.lateStores == 1 && gives (exec .storeCompletion { s with storeOp := .committing 3 })
        (fun t => t.storeOp == .committing 3 && t.commitMap == 0 &&
          gives (exec .storeCompletion t) (fun u => u.storeOp == .idle && u.commitMap == 8))) = true := by decide +kernel

/-- R177: with the last of S3's three blocks the section becomes BLANK. -/
theorem test_eraseBlockCompletion_of_the_last_block :
    gives (exec .eraseBlockCompletion { staffed with
        storeOp := .erasing 3 6, installer := true, commitMap := 8, store := [(383, 1), (384, 2), (447, 3), (448, 4)] })
      (fun t => t.store == [(383, 1), (448, 4)] && t.storeOp == .idle && t.commitMap == 0) = true := by decide

theorem test_operationTimeout_fails_the_commit :
    gives (exec .operationTimeout { staffed with storeOp := .committing 3 })
      (fun t => t.lastResult == .failed && t.storeTimeout && t.commitMap == 0 && t.storeOp == .idle &&
        (t.port 2).pendingSet == 0b1100000#7) = true := by decide

/-- R181, R180: the load takes OPEN_LIMIT 1 from S4, and the list is cut; S5 is BLANK. -/
theorem test_profileLoad_cuts_the_list :
    gives (exec (.profileLoad 1) (ask { fullList with
        store := [(448, 0), (449, 0), (450, 1)], commitMap := 0x10, tuning := { fullList.tuning with presence := 2 } } 1
        (goodFrame 0x55 [])))
      (fun t => t.tuning.openLimit == 1 && t.tuning.presence == 1 && t.tuning.gateHold == 2000 &&
        (t.talkers.map Talker.pod) == [2]) = true := by decide

theorem test_profileLoad_with_an_open_leg_is_refused :
    answered (exec (.profileLoad 1) (ask (staffed.modLeg 3 fun leg => { leg with state := .held }) 1 (goodFrame 0x55 []))) 1
      (.refused .legsActive) [] = true := by decide

/-! ## The pod link -/

/-- Table 8-3, s1: after address 9 the cycle wraps to pod 2; its poll is address, pattern and the check of both. -/
theorem test_slotStart_wraps :
    gives (exec .slotStart { talkRoom with
        lastPolled := 9
        pods := Vector.ofFn fun p => if p ∈ [1, 4, 8] then { Pod.base p with listed := true } else Pod.base p })
      (fun t => t.lastPolled == 2 &&
        ((t.slot.map fun x => (x.poll.take 11).map LinkBit.level) ==
          some [false, false, true, false, false, false, false, false, false, true, true]) &&
        ((t.slot.map fun x => x.poll.map LinkBit.direction) == some (List.replicate 44 true ++ [false]))) = true := by decide

/-- A character that comes with its stop bit and no marker, after this many bit times at rest. -/
def char (b : Byte) (rest : Nat) : LineSegment := ⟨0, rest, b, false, true⟩

/-- The levels of one character, with its marker at 0 and its stop bit at 1. -/
def bits (b : Byte) : List Bool := characterBits b false true

/-- R130: the start bit, the least significant data bit first, the marker and the stop bit; rest at 1 between characters; and after a bad stop bit the wait for 1 before the next start bit. -/
theorem test_charsOn_of_a_line :
    charsOn ([true, true] ++ [false, true, false, true, true, false, false, false, true, false, true] ++ [true] ++
      characterBits 0x55 true false ++ [false, false, true] ++ bits 0xAA ++ [false, true, true]) =
      [⟨0x8D, false, true⟩, ⟨0x55, true, false⟩, ⟨0xAA, false, true⟩] := by decide +kernel

/-- Table 8-4 before j3: pod 4 DOUBTFUL with count 2 and baselines 15 and 2, its slot awaiting the reply. -/
def doubtful : State := { talkRoom with slot := some ⟨3, [], false, false⟩ }.modPod 3 fun pod =>
  { pod with link := .doubtful, misses := 2, baselines := some ⟨15, 2⟩ }

/-- Table 8-4, j3: short 2 and long 3 give three short presses and one long. -/
theorem test_replyComplete_counts_presses :
    (let check := crc16 [0x04, 0x32, 0x00]
    gives (exec (.replyComplete (true :: bits 0x04) (bits 0x32) (true :: true :: bits 0x00) (bits (check.extractLsb' 8 8))
        (bits (check.extractLsb' 0 8))) doubtful)
      (fun t => (t.pod 3).link == .online && (t.pod 3).misses == 0 && (t.pod 3).baselines == some ⟨2, 3⟩ &&
        (t.pod 3).shortDue == 3 && (t.pod 3).longDue == 1 && (t.port 0).pendingSet == 0b0000100#7)) = true := by decide +kernel

/-- Table 8-4, "had j3 been a third miss": LOST with a count of 3, LINK, POD_LOST latched and no baselines. -/
theorem test_replyWindowCloses_loses_the_pod :
    gives (exec .replyWindowCloses doubtful)
      (fun t => (t.pod 3).link == .lost && (t.pod 3).misses == 3 && (t.pod 3).holds == HoldSet.linkOnly &&
        (t.pod 3).podLost == ⟨true, true⟩ && (t.pod 3).baselines == none && (t.pod 3).timeouts == 1) = true := by decide

/-- Table 10-2, the first row: the timeout counter goes from 254 to 255 and latches POD_ERRORS. -/
theorem test_replyWindowCloses_latches_podErrors :
    gives (exec .replyWindowCloses ({ talkRoom with slot := some ⟨13, [], false, false⟩ }.modPod 13 fun pod =>
        { pod with timeouts := 254 }))
      (fun t => (t.pod 13).link == .doubtful && (t.pod 13).misses == 1 && (t.pod 13).timeouts == 255 &&
        (t.pod 13).podErrors == ⟨true, true⟩ && (t.port 1).pendingSet == 0b0100100#7) = true := by decide

/-- R135: a stop bit at 0 in the second character is a framing error, whatever the data are. -/
theorem test_replyComplete_with_a_bad_stop_bit :
    gives (exec (.replyComplete (bits 0x04) (characterBits 0x32 false false) (false :: true :: bits 0x00) (bits 0) (bits 0))
        (doubtful.modPod 3 fun pod => { pod with misses := 0 }))
      (fun t => (t.pod 3).framingErrors == 1 && (t.pod 3).checkFailures == 0 && (t.pod 3).misses == 1) = true := by
  decide +kernel

/-! ## Audio lanes -/

/-- Table 6-1: pod 12 uses lane 1, slot 3; a sample stands in the first 24 bits of its slot. -/
theorem test_samples_of_slots :
    podSample ⟨Vector.ofFn fun i => Vector.ofFn fun j => if i.val = 1 ∧ j.val = 3 then 0xFFFFFE77#32 else 0x000001FF#32,
      Vector.replicate 8 0x80000000#32⟩ 11 = -2 ∧
    podSample ⟨Vector.replicate 3 (Vector.replicate 8 0x000001FF#32), Vector.replicate 8 0#32⟩ 16 = 1 ∧
    legSample ⟨Vector.replicate 3 (Vector.replicate 8 0#32), Vector.replicate 8 0x80000000#32⟩ 3 = -8388608 := by decide

/-- R110: the sample period at position 47 hands the frame, and the first one sets RUNNING. The two bit clocks after the 256th are ignored (R109). -/
theorem test_samplePeriodComplete_hands_the_frame :
    let l := period [(11, -2), (23, 8388607)] [(3, -8388608)]
    gives (exec (.samplePeriodComplete (clocksOf l 2)) { staffed with assembly := List.replicate 47 l })
      (fun t => t.sync == .running && t.assembly == [] && t.gateInput == some (frameOf l)) = true := by decide +kernel

/-- R109, Table 6-1: pod 12's feed of -2 leaves on POD_OUT 1 in slot 3, most significant bit first, and the record output of 1 in LEG_OUT slot 4; three bit clocks after the 256th carry 0. -/
theorem test_samplePeriodComplete_drives_the_wires :
    gives (exec (.samplePeriodComplete (clocksOf (period [] []) 3)) { staffed with
        inProgress := some [⟨Vector.replicate 4 0, 1, Vector.ofFn fun p => if p.val = 11 then -2 else 0⟩] })
      (fun t => t.lanesOut.length == 259 &&
        (t.lanesOut.map fun x => x.podOut[1]) == List.replicate 96 false ++ List.replicate 23 true ++ List.replicate 140 false &&
        (t.lanesOut.map fun x => x.legOut) == List.replicate 151 false ++ [true] ++ List.replicate 107 false) = true := by
  decide +kernel

/-- R115: from MISSING the soft start zeroes M and empties the list; AUDIO_CLOCK stays latched. -/
theorem test_samplePeriodComplete_starts_softly :
    gives (exec (.samplePeriodComplete (clocksOf (period [] []) 0)) { fullList with
        sync := .missing, watchdog := false, audioClock := ⟨true, true⟩, assembly := List.replicate 47 (period [] []) })
      (fun t => t.sync == .running && t.watchdog && t.talkers == [] && (t.pod 2).muteEnv == Ramp.flat 0 &&
        t.audioClock == ⟨true, false⟩ && (t.port 0).pendingSet == 0b0100010#7) = true := by decide +kernel

/-- A period in which the watchdog ran out after `n` bit clocks: the wires have carried these levels. -/
def broken (n : Nat) : List LaneLevels := List.replicate n { podOut := #v[true, false, true], legOut := true }

theorem test_shortPeriod_breaks_the_frame :
    gives (exec .shortPeriod { fullList with assembly := [period [] []], waiting := some [], inProgress := some [] })
      (fun t => t.assembly == [] && t.waiting == none && t.inProgress == none && t.talkers == fullList.talkers) = true := by
  decide

/-- R109, R112: a period known to have had 255 bit clocks ends short, and the wires have carried them. -/
theorem test_shortPeriod_keeps_the_levels :
    gives (exec .shortPeriod { fullList with sync := .missing, underway := broken 255 })
      (fun t => t.lanesOut == broken 255 && t.underway == []) = true := by
  have h : ({ fullList with sync := .missing, underway := broken 255 } : State).clocksArrived = 255 := by
    simp only [State.clocksArrived, broken, List.length_replicate, show periodClocks - 255 = 1 from rfl, Nat.mod_one]
  rw [exec, execShortPeriod, h]
  decide +kernel

theorem test_watchdogExpiry_loses_the_clock :
    gives (exec .watchdogExpiry { fullList with sync := .running })
      (fun t => t.sync == .missing && !t.watchdog && t.audioClock == ⟨true, true⟩ && t.talkers == fullList.talkers &&
        (t.port 0).pendingSet == 0b0100000#7) = true := by decide

/-! ## Gate engine -/

/-- Table 4-1, frame b: pod 6 with L 3,052 and F 3,001 meets a peak of 250,000. -/
theorem test_frameWork_tracks_a_burst :
    gives (exec .frameWork ({ talkRoom with gateInput := some (frameOf (period [(5, -250000)] [])) }.modPod 5 fun pod =>
        { pod with level := 3052, floor := 3001 }))
      (fun t => (t.pod 5).level == 250000 && (t.pod 5).floor == 3002 && (t.pod 5).gate == .opened &&
        (t.pod 5).pattern == .talking) = true := by decide +kernel

/-- Table 4-3 before frame 800, with the levels that the example gives. -/
def before800 : State :=
  let s := { talkRoom with
    frameCount := 799
    tuning := { talkRoom.tuning with openLimit := 3 }
    talkers := [⟨3, .opened, 1, 610⟩, ⟨9, .hold 5, 2, 650⟩, ⟨14, .opened, 1, 700⟩]
    gateInput := some (frameOf (period [(3, 50000), (14, 60000), (1, 300000), (6, 400000), (8, 500000), (19, 90000)] [])) }
  s.mapPods fun p pod => { pod with
    cls := if p = 19 then 3 else if p = 9 ∨ p = 6 then 2 else 1
    holds := if p = 8 then holding false true false false else HoldSet.empty }

/-- Table 4-4. -/
theorem test_frameWork_displaces :
    gives (exec .frameWork before800) (fun t =>
      t.talkers == [⟨3, .opened, 1, 610⟩, ⟨19, .opened, 3, 800⟩, ⟨6, .opened, 2, 800⟩] && (t.pod 8).mutedTalk &&
        (t.port 0).pendingSet == 0b0000010#7) = true := by decide +kernel

/-! ## Mix engine -/

/-- Law 13 after GAIN TRIM (R1), and R12: the slide of the next frame begins where the last one ended. -/
theorem test_lowered_trim :
    gives (exec (.gainTrim 1) (ask (talkRoom.modPod 2 fun pod => { pod with
        gateEnv := Ramp.flat 65536, contrib := Ramp.flat 65536, contribEnd := 65536 }) 1 (goodFrame 0x30 [0, 3, 0, 0x40, 0])))
      (fun s => (s.pod 2).contrib.now == 16384 &&
        gives (exec .mixFrameEvent { s with talkers := [⟨2, .opened, 1, 1⟩], mixInput := some (frameOf (period [] [])) })
          (fun t => (t.pod 2).contrib == ⟨65536, 16384⟩ && (t.pod 2).contribEnd == 16384)) = true := by decide +kernel

/-- Table 3-5, f1: pod 3 held by ROOM with M 65,536 and G 65,536; c is 56,770. -/
theorem test_mixFrameEvent_ramps :
    gives (exec .mixFrameEvent ({ talkRoom with mixInput := some (frameOf (period [] [])) }.modPod 2 fun pod =>
        { pod with
          holds := holding false true false false, gateEnv := Ramp.flat 65536
          contrib := Ramp.flat 65536, contribEnd := 65536 }))
      (fun t => (t.pod 2).muteEnv == ⟨65536, 57344⟩ && (t.pod 2).gateEnv == ⟨65536, 64880⟩ &&
        (t.pod 2).contrib == ⟨65536, 56770⟩ && (t.pod 2).pattern == .live) = true := by decide

/-- Section 5.12, with pod 7's mid-ramp gain of 16,384 taken as its trim so that every gain is steady. -/
def callRoom : State :=
  let s := { talkRoom with
    tuning := { talkRoom.tuning with reinforce := 16384 }
    reinforceGain := Ramp.flat 16384, nomGain := Ramp.flat 46341
    talkers := [⟨2, .opened, 1, 1⟩, ⟨6, .opened, 1, 1⟩]
    mixInput := some ⟨[period [(2, 1200000), (6, -400000)] [(0, 500000), (1, -200000)]], true⟩
    legs := Vector.ofFn fun m =>
      if m = 0 then { Leg.base with
        state := .opened, receiveEnv := Ramp.flat 65536, sendEnv := Ramp.flat 65536, receiveFactor := Ramp.flat 65536 }
      else if m = 1 then { Leg.base with
        state := .opened, gain := 32768, receiveEnv := Ramp.flat 65536, sendEnv := Ramp.flat 65536
        receiveFactor := Ramp.flat 32768 }
      else Leg.base }
  s.mapPods fun p pod => { pod with
    trim := if p = 6 then 16384 else 65536
    contrib := Ramp.flat (if p = 2 then 65536 else if p = 6 then 16384 else 0)
    contribEnd := if p = 2 then 65536 else if p = 6 then 16384 else 0
    gateEnv := Ramp.flat (if p = 2 ∨ p = 6 then 65536 else 0)
    volume := if p = 8 then 32768 else 65536
    volumeGain := Ramp.flat (if p = 8 then 32768 else 65536)
    excl := if p = 4 then 0b111000#24 else pod.excl }

/-- Table 5-5. -/
theorem test_mixFrameEvent_outputs :
    gives (exec .mixFrameEvent callRoom) (fun t => ((t.waiting.getD []).map fun o =>
      ((o.record, o.sends.toList), (o.feeds[4], o.feeds[2], o.feeds[6], o.feeds[8]))) ==
      [((1177818, [677818, 1277818, 0, 0]), (675000, 375000, 700000, 337500))]) = true := by decide

/-- Section 5.13: pod 7 joins pod 3, at samples 0 and 47. -/
theorem test_interpolation_of_a_join :
    (Ramp.at ⟨0, 32768⟩ 0, Ramp.at ⟨65536, 46341⟩ 0, Ramp.at ⟨65536, 57344⟩ 23) = (682, 65137, 61440) ∧
    recordSample 78370400000 65137 0 = 1188557 ∧ recordSample 65536000000 46341 0 = 707108 := by decide

/-- Section 5.14: ties away from zero, and saturation. -/
theorem test_rounding_and_saturation :
    [-3, 3, 1, -1].map (fun y => recordSample 0 65536 (y * 32768)) = [-2, 2, 1, -1] ∧
    recordSample (8000000 * 131072) 65536 0 = 8388607 := by decide

/-! ## Witnesses: states and operands that meet the hypotheses of the statements -/

/-- A command's outcome is a next state. -/
def completes (o : Result) : Bool :=
  match o with
  | .next _ => true
  | _ => false

theorem exists_next {o : Result} (h : completes o = true) : ∃ t, o = .next t := by
  cases o with
  | next t => exact ⟨t, rfl⟩
  | fault r => exact absurd h (by simp [completes])
  | refused r => exact absurd h (by simp [completes])

/-- Nothing is left to recompute, as a test. -/
def calm (s : State) : Bool := decide
  ((∀ p, (s.pod p).gate = s.gateOf p ∧ (s.pod p).flagCopy = (s.pod p).mutedTalk ∧ (s.pod p).pattern = s.patternOf p) ∧
    ∀ q, (s.port q).attention = (s.port q).wantsAttention)

theorem settled_of_calm {s : State} (h : calm s = true) : s.settled :=
  (State.settled_iff s).2 (by simpa only [calm, decide_eq_true_eq] using h)

/-- Every part of `State.sound` but that of the store, as one test. -/
def parts (s : State) : Bool :=
  calm s && decide s.tablesSound && decide s.linkSound && decide s.portsSound && decide s.talkersSound &&
  decide s.legsSound && decide s.gainsSound && decide s.lanesSound && decide s.startSound && decide s.faultsSound

theorem sound_of_parts {s : State} (h : parts s = true) (store : s.storeSound) : s.sound := by
  simp only [parts, Bool.and_eq_true, decide_eq_true_eq] at h
  obtain ⟨⟨⟨⟨⟨⟨⟨⟨⟨calm, tables⟩, link⟩, ports⟩, talkers⟩, legs⟩, gains⟩, lanes⟩, start⟩, faults⟩ := h
  exact ⟨settled_of_calm calm, tables, link, ports, talkers, legs, gains, lanes, start, store, faults⟩

/-- What a request row needs of a state: its frame at the head of the port's queue, and its port joined in a role. -/
abbrev Asks (s : State) (q : PortId) (role : Role) (f : RequestFrame) : Prop :=
  AtTurn (ask s q f) q f [] ∧ JoinedAs (ask s q f) q role

theorem ask_atTurn {s : State} {q : PortId} (h : calm s = true) (room : (s.port q).replies.length < 4) (f : RequestFrame) :
    AtTurn (ask s q f) q f [] where
  settled := State.settled_mapPorts (settled_of_calm h) _ fun k => by
    have : (s.port k).attention = (s.port k).wantsAttention := by
      simp only [calm, decide_eq_true_eq] at h; exact h.2 k
    split <;> simpa [Port.wantsAttention] using this
  requests := by simp [ask]
  room := by simpa [ask] using room

theorem ask_joinedAs {s : State} {q k : PortId} {role : Role} (f : RequestFrame) (h : JoinedAs s k role) :
    JoinedAs (ask s q f) k role := by
  obtain ⟨state, role⟩ := h
  constructor <;> simp only [ask, State.port_modPort] <;> split <;> simp_all

/-- A settled state with a joined port meets what a request of any form needs. -/
theorem asks {s : State} {q : PortId} {role : Role}
    (h : calm s = true ∧ (s.port q).replies.length < 4 ∧
      ((s.port q).state = .attached ∨ (s.port q).state = .stale) ∧ (s.port q).role = some role)
    (f : RequestFrame) : Asks s q role f :=
  ⟨ask_atTurn h.1 h.2.1 f, ask_joinedAs f ⟨h.2.2.1, h.2.2.2⟩⟩

theorem call_asks (f : RequestFrame) : Asks staffed 0 .call f := asks (by decide) f

theorem room_asks (f : RequestFrame) : Asks staffed 1 .room f := asks (by decide) f

theorem view_asks (f : RequestFrame) : Asks staffed 2 .view f := asks (by decide) f

/-- The staffed room with one of its ports back as after reset. -/
def unjoined : State := staffed.modPort 2 fun _ => Port.base

/-- The same with that port ABSENT. -/
def absent : State := staffed.modPort 2 fun _ => { Port.base with state := .absent, portLost := ⟨true, true⟩ }

theorem witness_ResetOfAnUnwrittenPart :
    talkRoom ≠ State.reset ∧ talkRoom.store = [] ∧ talkRoom.commitMap = 0 ∧ talkRoom.storeOp = .idle := by decide

theorem witness_BlocksAfterAnyReset :
    ∀ c ∈ [Instr.resetN, .powerUp true, .powerUp false], c = .resetN ∨ ∃ install, c = .powerUp install := by simp

/-- Each operation at the end of the store, interrupted in each of the three ways. -/
theorem witness_InterruptedOperations :
    ∀ op ∈ [StoreOp.writing 1023 [7], .writing 0 (List.replicate 16 7), .erasing 7 15, .erasing 0 0, .committing 7,
        .committing 0, .idle],
      ∀ c ∈ [Instr.operationTimeout, .resetN, .powerUp false],
      let s := { staffed with store := [(1023, 1)], storeOp := op, installer := true }
      s.storeSound ∧ (c = .operationTimeout ∨ c = .resetN ∨ ∃ install, c = .powerUp install) ∧
      ∃ t, exec c s = .next t := by
  intro op hop c hc
  refine ⟨⟨rfl, ?_⟩, ?_, exists_next ?_⟩
  · simp only [List.mem_cons, List.not_mem_nil, or_false] at hop
    rcases hop with rfl | rfl | rfl | rfl | rfl | rfl | rfl <;> (simp only [StoreOp.sound]; try decide)
  · simp only [List.mem_cons, List.not_mem_nil, or_false] at hc
    rcases hc with rfl | rfl | rfl <;> simp
  · revert c; revert op; decide +kernel

theorem witness_SelectionFixesTheFrame :
    (staffed.port 1).transaction = none ∧ (staffed.port 1).replies = [] ∧
    let s := staffed.modPort 1 fun port => { port with replies := four }
    (s.port 1).transaction = none ∧ (s.port 1).replies = ⟨.done, 0x42, []⟩ :: four.tail := by decide

/-- A transaction of the reply at the head, of four queued ones and of one, and one of the NONE frame. -/
def shifting (replies : List Reply) (isReply : Bool) (requests : List RequestFrame) : State :=
  staffed.modPort 1 fun port => { port with
    replies := replies, attention := !replies.isEmpty, requests := requests
    transaction := some ⟨[1, 1, 0x42, 0, 0], isReply, false, false⟩ }

theorem witness_ShiftedOutReplyLeaves :
    (∀ s ∈ [shifting four true [goodFrame 0x46 []], shifting four true [], shifting (four.take 1) true [goodFrame 0x46 []],
        shifting [] false []],
      s.settled ∧ (s.port 1).transaction.isSome = true ∧ ∀ x ∈ (s.port 1).transaction, x.complete = false) ∧
    ((shifting four true [goodFrame 0x46 []]).port 1).replies.length = 4 ∧
    ((shifting four true [goodFrame 0x46 []]).port 1).requests = goodFrame 0x46 [] :: [] := by
  refine ⟨fun s hs => ⟨settled_of_calm ?_, ?_⟩, by decide, by decide⟩
  · revert s; decide
  · revert s; decide

/-- A frame of 20 operands, one of 21, an empty one, one byte alone, a frame that is fetched whole, and a last byte of seven bits. -/
theorem witness_DeselectionReceivesTheFrame :
    (∃ x, ((shifting four true []).port 1).transaction = some x ∧ x.complete = false ∧
      (wireBits x.frame).length ≤ (wireBits [0x00, 0x00, 0x00, 0x00, 0x00]).length ∧
      [0x03, 0x01, 0x00, (0x3E : Byte)].length < x.frame.length) ∧ (List.replicate 7 true).length < 8 ∧
    (∀ bytes ∈ [[], [0x46], [0x00, 0x00, (0x00 : Byte)]], bytes.length < 2 ∨ bytes.head? = some 0x00) ∧
    ∀ len ∈ [0, 20, 21], ∃ rest, (0x51 : Byte) :: byteOf len :: List.replicate (len + 1) 0 = 0x51 :: byteOf len :: rest ∧
      (0x51 : Byte) ≠ 0x00 := by
  refine ⟨⟨_, rfl, by decide, by decide, by decide⟩, by decide, by decide, fun len _ => ⟨_, rfl, by decide⟩⟩

theorem witness_EveryTurnGivesOneReply :
    AtTurn (ask staffed 1 (goodFrame 0x46 [])) 1 (goodFrame 0x46 []) [] ∧
    (((shifting four true [goodFrame 0x46 []]).port 1).requests = goodFrame 0x46 [] :: [] ∧
      4 ≤ ((shifting four true [goodFrame 0x46 []]).port 1).replies.length) := ⟨(room_asks _).1, by decide⟩

/-- A PRIVACY_ON from VIEW. -/
theorem witness_RefusedRequestChangesNothing :
    let s := ask staffed 2 (goodFrame 0x13 [])
    AtTurn s 2 (goodFrame 0x13 []) [] ∧ ∃ t, exec ((goodFrame 0x13 []).row.command 2) s = .next t ∧
      (t.port 2).replies = (s.port 2).replies ++ [⟨.refused .notPermitted, 0x13, []⟩] :=
  ⟨(view_asks _).1, _, rfl, by decide⟩

theorem witness_FramesThatReachNoBlock :
    (∀ f ∈ [⟨0x10, [], some .check⟩, ⟨0x10, [], some .length⟩, goodFrame 0x07 [], goodFrame 0x0F [], goodFrame 0x47 [],
        goodFrame 0xFF [0]], AtTurn (ask staffed 1 f) 1 f []) ∧
    (∀ code ∈ [0x07, 0x0F, 0x47, 0xFF], code ∉ [0x01, 0x02, 0x03, 0x04, 0x05, 0x06, 0x10, 0x11, 0x12, 0x13, 0x14, 0x20,
      0x30, 0x31, 0x32, 0x33, 0x40, 0x41, 0x42, 0x43, 0x44, 0x45, 0x46, 0x50, 0x51, 0x52, 0x53, 0x54, 0x55]) ∧
    (∀ s ∈ [unjoined, absent], AtTurn (ask s 2 (goodFrame 0x02 [])) 2 (goodFrame 0x02 []) [] ∧
      (((ask s 2 (goodFrame 0x02 [])).port 2).state = .detached ∨ ((ask s 2 (goodFrame 0x02 [])).port 2).state = .absent)) ∧
    (goodFrame 0x02 []).row ∉ [.badFrame, .unknown, .join, .ident] := by
  refine ⟨fun f _ => (room_asks f).1, by decide, fun s hs => ⟨ask_atTurn ?_ ?_ _, ?_⟩, by decide⟩ <;>
    (revert s; decide)

/-- VIEW from a DETACHED and from an ABSENT port, and CALL and ROOM while no other port holds them. -/
theorem witness_JoinClaimsTheRole :
    (∀ s ∈ [unjoined, absent], ∀ b, AtTurn (ask s 2 (goodFrame 0x01 [b])) 2 (goodFrame 0x01 [b]) [] ∧
      (((ask s 2 (goodFrame 0x01 [b])).port 2).state = .detached ∨ ((ask s 2 (goodFrame 0x01 [b])).port 2).state = .absent)) ∧
    (∀ b, AtTurn (ask State.reset 2 (goodFrame 0x01 [b])) 2 (goodFrame 0x01 [b]) []) ∧
    ∀ role : Role, ∀ k, ¬ JoinedAs (ask State.reset 2 (goodFrame 0x01 [0])) k role := by
  refine ⟨fun s hs b => ⟨ask_atTurn ?_ ?_ _, ?_⟩, fun b => ask_atTurn (by decide) (by decide) _, fun role k h => ?_⟩
  · revert s; decide
  · revert s; decide
  · revert b; revert s; decide
  · have none : ∀ k, ((ask State.reset 2 (goodFrame 0x01 [0])).port k).role = none := by decide
    cases (none k).symm.trans h.role

/-- Each refusal at a boundary: operand counts beside the forms, codes one too high, roles, and indices 0, 4, 16 and 25; and the four refusals of JOIN. -/
theorem witness_RequestsRefusedInOrder :
    (∀ x ∈ ([(goodFrame 0x10 [0, 1, 1, 1, 1, 1], .length), (goodFrame 0x31 [1, 0], .length), (goodFrame 0x31 [1, 0, 0], .length),
        (goodFrame 0x32 [3, 1], .length), (goodFrame 0x32 [2, 1], .length), (goodFrame 0x32 [0, 1, 1, 1, 1, 1], .length),
        (goodFrame 0x32 [4], .length), (goodFrame 0x46 [0], .length), (goodFrame 0x10 [3, 1], .range),
        (goodFrame 0x11 [3, 1], .range), (goodFrame 0x30 [3, 1, 0, 0, 0], .range), (goodFrame 0x32 [4, 1], .range),
        (goodFrame 0x32 [2, 2, 1], .range), (goodFrame 0x20 [0, 3], .range), (goodFrame 0x20 [0, 1], .notPermitted),
        (goodFrame 0x30 [0, 0, 0, 0, 0], .range), (goodFrame 0x40 [25], .range), (goodFrame 0x31 [0], .range),
        (goodFrame 0x31 [16, 0, 0, 0], .range), (goodFrame 0x33 [25, 0], .range)] : List (RequestFrame × Reason)),
      Asks staffed 1 .room x.1 ∧ x.1.bad = none ∧ x.1.row ≠ .unknown ∧
        firstRefusal .room x.1.code.toNat x.1.operands = some x.2) ∧
    (∀ f ∈ [goodFrame 0x10 [0, 1, 1, 1, 1], goodFrame 0x32 [3, 25, 0], goodFrame 0x12 [1, 1]],
      Asks staffed 2 .view f ∧ f.row ≠ .unknown ∧ firstRefusal .view f.code.toNat f.operands = some .notPermitted) ∧
    (Asks staffed 0 .call (goodFrame 0x20 [4, 1]) ∧ firstRefusal .call 0x20 [4, 1] = some .range) ∧
    (∀ operands ∈ [[], [0, (0 : Byte)], [3], [2]],
      AtTurn (ask staffed 2 (goodFrame 0x01 operands)) 2 (goodFrame 0x01 operands) [] ∧
      ((ask staffed 2 (goodFrame 0x01 operands)).port 2).state = .attached) ∧
    (∀ b ∈ [0, (1 : Byte)], AtTurn (ask unjoined 2 (goodFrame 0x01 [b])) 2 (goodFrame 0x01 [b]) [] ∧
      JoinedAs (ask unjoined 2 (goodFrame 0x01 [b])) 0 .call ∧ JoinedAs (ask unjoined 2 (goodFrame 0x01 [b])) 1 .room ∧
      ((ask unjoined 2 (goodFrame 0x01 [b])).port 2).state = .detached) := by
  refine ⟨fun x hx => ⟨room_asks _, ?_⟩, fun f hf => ⟨view_asks _, ?_⟩, ⟨call_asks _, by decide⟩,
    fun operands _ => ⟨(view_asks _).1, ?_⟩,
    fun b _ => ⟨ask_atTurn (by decide) (by decide) _, ask_joinedAs _ ⟨by decide, by decide⟩,
      ask_joinedAs _ ⟨by decide, by decide⟩, ?_⟩⟩
  · revert x; decide +kernel
  · revert f; decide
  · simp only [ask, State.port_modPort, if_true]; decide
  · simp only [ask, State.port_modPort, if_true]; decide

/-- LEAVE of CALL with legs OPEN and HELD, of ROOM, and with an operand. -/
theorem witness_LeaveDropsTheRole :
    Asks lostCall 0 .call (goodFrame 0x02 []) ∧ lostCall.anyLegActive = true ∧ Asks staffed 1 .room (goodFrame 0x02 []) ∧
    Asks staffed 1 .room (goodFrame 0x02 [0]) := by
  refine ⟨asks ?_ _, by decide, room_asks _, room_asks _⟩
  decide

/-- Phases 0, 1, 2 and 255 against last phase 1, from an ATTACHED and from a STALE port. -/
theorem witness_PulseRefreshesPresence :
    (∀ phase : Byte, Asks staffed 1 .room (goodFrame 0x03 [phase])) ∧ (staffed.port 1).lastPhase = 1 ∧
    Asks (staffed.modPort 1 fun port => { port with state := .stale }) 1 .room (goodFrame 0x03 [0]) ∧
    Asks staffed 1 .room (goodFrame 0x03 []) := by
  refine ⟨fun _ => room_asks _, by decide, asks (by decide) _, room_asks _⟩

theorem witness_NoticesAndWatch :
    Asks staffed 2 .view (goodFrame 0x04 []) ∧ (∀ b, Asks staffed 2 .view (goodFrame 0x05 [b])) ∧
    Asks staffed 2 .view (goodFrame 0x04 [0]) ∧ Asks staffed 2 .view (goodFrame 0x05 []) :=
  ⟨view_asks _, fun _ => view_asks _, view_asks _, view_asks _⟩

theorem witness_PresenceExpiries :
    staffed.settled ∧ (staffed.port 0).state = .attached ∧
    (lostCall.modPort 0 fun port => { port with state := .stale }).settled ∧
    ((lostCall.modPort 0 fun port => { port with state := .stale }).port 0).state = .stale := by
  refine ⟨settled_of_calm (by decide), by decide, settled_of_calm ?_, by decide⟩
  decide

/-- Sets of one byte and of four, from CALL and from ROOM. -/
theorem witness_PodHoldRequests :
    Asks staffed 0 .call (goodFrame 0x10 [0x00, 0xFF]) ∧ Asks staffed 1 .room (goodFrame 0x11 [0x00, 0xFF, 0, 0, 1]) ∧
    Role.call ≠ .view ∧ Role.room ≠ .view := ⟨call_asks _, room_asks _, by decide, by decide⟩

theorem witness_LegHoldRequests :
    Asks staffed 0 .call (goodFrame 0x10 [0x01, 0xFF]) ∧ Asks staffed 1 .room (goodFrame 0x11 [0x02, 0xFF, 0, 0, 1]) :=
  ⟨call_asks _, room_asks _⟩

theorem witness_ReleaseAllClearsPodHolds :
    Asks staffed 1 .room (goodFrame 0x12 [0xFF]) ∧ Asks staffed 1 .room (goodFrame 0x12 [0xFF, 0, 0, 1]) :=
  ⟨room_asks _, room_asks _⟩

theorem witness_PrivacyRequests :
    Asks staffed 0 .call (goodFrame 0x13 []) ∧ Asks staffed 1 .room (goodFrame 0x14 []) := ⟨call_asks _, room_asks _⟩

theorem witness_ShortPressJudged :
    ∀ p ∈ [(0 : PodId), 23], let s := talkRoom.modPod p fun pod => { pod with shortDue := 15 }
      s.settled ∧ 0 < (s.pod p).shortDue := by
  intro p hp
  exact ⟨settled_of_calm (by revert p; decide), by revert p; decide⟩

theorem witness_LongPressJudged :
    ∀ p ∈ [(0 : PodId), 23], let s := talkRoom.modPod p fun pod => { pod with longDue := 1 }
      s.settled ∧ (s.pod p).shortDue = 0 ∧ 0 < (s.pod p).longDue := by
  intro p hp
  exact ⟨settled_of_calm (by revert p; decide), by revert p; decide⟩

/-- Leg 3 from CLOSED to each state, and a HELD leg 2 with leg 0 OPEN. -/
theorem witness_LegStateChanges :
    (∀ code : Byte, Asks staffed 0 .call (goodFrame 0x20 [byteOf 3, code])) ∧ (staffed.leg 3).state = .closed ∧
    (∀ code : Byte, Asks lostCall 0 .call (goodFrame 0x20 [byteOf 2, code])) ∧ (lostCall.leg 2).state = .held := by
  refine ⟨fun _ => call_asks _, by decide, fun _ => asks ?_ _, by decide⟩
  decide

/-- Pods 1 and 24, and legs 0 and 3 from CALL. -/
theorem witness_GainSetsOneItem :
    (∀ index ∈ [1, 24], (∃ p, (BitVec.ofNat 8 index).toNat = addressOf p) ∧
      Asks staffed 1 .room (goodFrame 0x30 ([0x00, BitVec.ofNat 8 index] ++ [0xFF, 0xFF, 0xFF])) ∧
      Asks staffed 1 .room (goodFrame 0x30 ([0x01, BitVec.ofNat 8 index] ++ [0x01, 0, 0]))) ∧
    (∀ m : LegId, (byteOf m.val).toNat = m.val ∧
      Asks staffed 0 .call (goodFrame 0x30 ([0x02, byteOf m.val] ++ [0x02, 0, 1]))) := by
  refine ⟨fun index h => ⟨?_, room_asks _, room_asks _⟩, fun m => ⟨by revert m; decide, call_asks _⟩⟩
  revert index; decide

/-- The ids 1 to 15; OPEN_LIMIT lowered below the talker count, and LAST_ON cleared beside a LAST entry. -/
theorem witness_TuneSetsOneParameter :
    (∀ id ∈ List.range 15, (paramOfId (BitVec.ofNat 8 (id + 1)).toNat).isSome = true) ∧
    staffed.talkersSound ∧ (∀ id v, Asks staffed 1 .room (goodFrame 0x31 (id :: [v, v, v]))) ∧
    (ask (fullList.settle) 1 (goodFrame 0x31 [1, 0, 0, 2])).talkersSound ∧
    Asks fullList.settle 1 .room (goodFrame 0x31 [1, 0, 0, 2]) ∧
    (let s := { talkRoom with talkers := [⟨2, .last, 1, 100⟩] }.settle;
      (ask s 1 (goodFrame 0x31 [8, 0, 0, 0])).talkersSound ∧ Asks s 1 .room (goodFrame 0x31 [8, 0, 0, 0])) := by
  refine ⟨by decide, by decide, fun _ _ => room_asks _, by decide, asks (by decide) _, by decide, asks (by decide) _⟩

/-- The first listing of a room with an empty roster, and one beside listed pods. -/
theorem witness_RosterListAddsPods :
    Asks (staffed.mapPods fun p _ => Pod.base p) 1 .room (goodFrame 0x32 [0x00, 0x80, 0, 0, 0x80]) ∧
    (∀ p, ((staffed.mapPods fun p _ => Pod.base p).pod p).listed = false) ∧
    Asks (staffed.modPod 6 fun _ => Pod.base 6) 1 .room (goodFrame 0x32 [0x00, 0x80]) := by
  refine ⟨asks (by decide) _, by decide, asks (by decide) _⟩

theorem witness_RosterUnlistClearsPods :
    Asks staffed 1 .room (goodFrame 0x32 [0x01, 0xFF, 0xFF, 0xFF, 0xFF]) ∧
    Asks fullList.settle 1 .room (goodFrame 0x32 [0x01, 0x20]) := ⟨room_asks _, asks (by decide) _⟩

theorem witness_RosterChairAndClass :
    Asks staffed 1 .room (goodFrame 0x32 [0x02, 1, 0xFF]) ∧ Asks staffed 1 .room (goodFrame 0x32 [0x02, 0, 0, 0, 0, 2]) ∧
    (∀ v, Asks staffed 1 .room (goodFrame 0x32 [0x03, 24, v])) ∧ (24 : Byte).toNat = addressOf 23 :=
  ⟨room_asks _, room_asks _, fun _ => room_asks _, by decide⟩

theorem witness_ExcludeReplacesTheSet :
    Asks staffed 1 .room (goodFrame 0x33 [1, 0xFF]) ∧ (1 : Byte).toNat = addressOf 0 ∧
    Asks staffed 1 .room (goodFrame 0x33 [24, 0xFF, 0xFF, 0xFF, 0xFF]) ∧ (24 : Byte).toNat = addressOf 23 :=
  ⟨room_asks _, by decide, room_asks _, by decide⟩

theorem witness_IdentRoomPortAndTuneReads :
    AtTurn (ask State.reset 0 (goodFrame 0x06 [])) 0 (goodFrame 0x06 []) [] ∧
    AtTurn (ask State.reset 0 (goodFrame 0x06 [0])) 0 (goodFrame 0x06 [0]) [] ∧
    Asks staffed 2 .view (goodFrame 0x46 []) ∧ Asks staffed 2 .view (goodFrame 0x43 []) ∧
    Asks staffed 2 .view (goodFrame 0x31 [15]) ∧ (paramOfId (15 : Byte).toNat).isSome = true :=
  ⟨ask_atTurn (by decide) (by decide) _, ask_atTurn (by decide) (by decide) _, view_asks _, view_asks _, view_asks _,
    by decide⟩

theorem staffed_asking_sound (q : PortId) (f : RequestFrame) (h : parts (ask staffed q f) = true) :
    (ask staffed q f).sound := sound_of_parts h ⟨rfl, trivial⟩

theorem witness_LegAndTalkerReads :
    ((ask staffed 2 (goodFrame 0x42 [])).sound ∧ Asks staffed 2 .view (goodFrame 0x42 [])) ∧
    ((ask fullList.settle 2 (goodFrame 0x41 [])).talkers.length = 4 ∧ Asks fullList.settle 2 .view (goodFrame 0x41 [])) ∧
    (ask staffed 2 (goodFrame 0x41 [])).sound :=
  ⟨⟨staffed_asking_sound _ _ (by decide), view_asks _⟩, ⟨by decide, asks (by decide) _⟩,
    staffed_asking_sound _ _ (by decide)⟩

theorem witness_ChannelAndFaultReads :
    (∀ a ∈ [1, (24 : Byte)], (ask staffed 2 (goodFrame 0x40 [a])).sound ∧ Asks staffed 2 .view (goodFrame 0x40 [a])) ∧
    (1 : Byte).toNat = addressOf 0 ∧ (24 : Byte).toNat = addressOf 23 ∧
    (ask staffed 2 (goodFrame 0x44 [])).sound ∧ Asks staffed 2 .view (goodFrame 0x44 []) := by
  refine ⟨fun a ha => ⟨staffed_asking_sound _ _ ?_, view_asks _⟩, by decide, by decide,
    staffed_asking_sound _ _ (by decide), view_asks _⟩
  revert a; decide

theorem witness_ClearFaultsClearsEndedFaults :
    Asks staffed 0 .call (goodFrame 0x45 ([0xFF, 0xFF, 0xFF, 0xFF] ++ [0xFF])) ∧
    Asks staffed 1 .room (goodFrame 0x45 ([0, 0, 0, 0] ++ [0])) := ⟨call_asks _, room_asks _⟩

/-- The last address with count 1 and 16, the first address past the store, and counts 0 and 17. -/
theorem witness_StoreReads :
    (∀ count ∈ [0, 1, 16, (17 : Byte)], Asks staffed 2 .view (goodFrame 0x50 ([0x03, 0xFF] ++ [count]))) ∧
    number [(0x03 : Byte), 0xFF] = 1023 ∧ Asks staffed 2 .view (goodFrame 0x50 ([0x04, 0x00] ++ [1])) ∧
    Asks staffed 2 .view (goodFrame 0x50 []) ∧ Asks staffed 2 .view (goodFrame 0x54 [0]) ∧
    Asks staffed 2 .view (goodFrame 0x54 []) :=
  ⟨fun _ _ => view_asks _, by decide, view_asks _, view_asks _, view_asks _, view_asks _⟩

/-- Addresses 1,023 and 1,024, sections 7 and 8, an operation running, a section committed, and installer mode. -/
theorem witness_StoreOperationsBegin :
    (∀ s ∈ [staffed, { staffed with storeOp := .committing 7 }, { staffed with commitMap := 0xFF },
        { staffed with installer := true }, { staffed with installer := true, storeOp := .committing 7 }],
      (∀ f, Asks s 1 .room f)) ∧
    number [(0x03 : Byte), 0xFF] = 1023 ∧ number [(0x04 : Byte), 0x00] = 1024 ∧
    (0xFF : BitVec 8).getLsbD (sectionOf 1023) = true ∧ (staffed.commitMap).getLsbD 7 = false := by
  refine ⟨fun s hs f => asks ?_ f, by decide, by decide, by decide, by decide⟩
  revert s; decide

/-- Each operation at the end of the store; and a retry with a completion still to come. -/
theorem witness_StoreOperationsEnd :
    (∀ op ∈ [StoreOp.writing 1023 [7], .committing 7, .erasing 7 14, .erasing 7 15],
      ({ staffed with storeOp := op, installer := true }).settled ∧
      ({ staffed with storeOp := op, installer := true }).storeSound) ∧
    staffed.lateStores = 0 ∧ staffed.lateBlocks = 0 ∧
    (let s := { staffed with storeOp := .committing 7, lateStores := 1, lateBlocks := 1 }; s.settled ∧ s.storeSound) := by
  refine ⟨fun op hop => ⟨settled_of_calm (by revert op; decide), rfl, ?_⟩, rfl, rfl, settled_of_calm (by decide), rfl,
    Nat.le_refl 7⟩
  simp only [List.mem_cons, List.not_mem_nil, or_false] at hop
  rcases hop with rfl | rfl | rfl | rfl <;> (simp only [StoreOp.sound]; decide)

/-- A room ready to load, with talkers and with nobody listed; one with a leg HELD, and one with a commit running. -/
theorem witness_ProfileLoadReplacesTheTables :
    ((ask staffed 1 (goodFrame 0x55 [])).sound ∧ Asks staffed 1 .room (goodFrame 0x55 []) ∧
      staffed.anyLegActive = false ∧ staffed.storeOp = .idle) ∧
    (let s := { fullList with sync := .running }.settle;
      (ask s 1 (goodFrame 0x55 [])).sound ∧ Asks s 1 .room (goodFrame 0x55 []) ∧ s.talkers.length = 4) ∧
    (let s := staffed.mapPods fun p _ => Pod.base p;
      (ask s 1 (goodFrame 0x55 [])).sound ∧ Asks s 1 .room (goodFrame 0x55 []) ∧ s.slot = none ∧
      ∀ k, (s.pod k).listed = false) ∧
    (let s := staffed.modLeg 3 fun leg => { leg with state := .held };
      (ask s 1 (goodFrame 0x55 [])).sound ∧ Asks s 1 .room (goodFrame 0x55 []) ∧ s.anyLegActive = true) ∧
    (let s := { staffed with storeOp := .committing 7 };
      (ask s 1 (goodFrame 0x55 [])).sound ∧ Asks s 1 .room (goodFrame 0x55 []) ∧ s.storeOp ≠ .idle) :=
  ⟨⟨staffed_asking_sound _ _ (by decide), room_asks _, by decide, by decide⟩,
    ⟨sound_of_parts (by decide) ⟨by decide, trivial⟩, asks (by decide) _, by decide⟩,
    ⟨sound_of_parts (by decide) ⟨by decide, trivial⟩, asks (by decide) _, by decide, by decide⟩,
    ⟨sound_of_parts (by decide) ⟨by decide, trivial⟩, asks (by decide) _, by decide⟩,
    ⟨sound_of_parts (by decide) ⟨by decide, Nat.le_refl 7⟩, asks (by decide) _, by decide⟩⟩

/-- An empty roster; the next pod above, and the wrap at pod 24; presses still to deliver; and a slot not yet judged. -/
theorem witness_SlotStartPollsTheNextPod :
    ((staffed.mapPods fun p _ => Pod.base p).settled ∧ ∀ p, ((staffed.mapPods fun p _ => Pod.base p).pod p).listed = false) ∧
    (∀ n ∈ [0, 23], { staffed with lastPolled := n }.settled ∧ { staffed with lastPolled := n }.nextSlotIs (Fin.ofNat 24 n)) ∧
    ({ staffed with lastPolled := 24 }.settled ∧ { staffed with lastPolled := 24 }.nextSlotIs 0) ∧
    (let s := talkRoom.modPod 0 fun pod => { pod with shortDue := 1 };
      s.settled ∧ s.nextSlotIs 0 ∧ 0 < (s.pod 0).shortDue) ∧
    (let s := talkRoom.modPod 0 fun pod => { pod with longDue := 1 };
      s.settled ∧ s.nextSlotIs 0 ∧ (s.pod 0).shortDue = 0 ∧ 0 < (s.pod 0).longDue) ∧
    (∃ s, exec .replyWindowCloses doubtful = .next s ∧ s.settled ∧ ∀ x ∈ s.slot, x.judged = true) := by
  simp only [State.nextSlotIs]
  exact ⟨⟨settled_of_calm (by decide), by decide⟩, fun n hn => ⟨settled_of_calm (by revert n; decide), by revert n; decide⟩,
    ⟨settled_of_calm (by decide), by decide⟩, ⟨settled_of_calm (by decide), by decide⟩,
    ⟨settled_of_calm (by decide), by decide⟩, _, rfl, settled_of_calm (by decide), by decide⟩

/-- The five characters with rest between them, and more bits after them. -/
theorem witness_GoodReplyJudged :
    let check := crc16 [0x04, 0x32, 0x00]
    let high := char (check.extractLsb' 8 8) 0
    let low := char (check.extractLsb' 0 8) 3
    doubtful.settled ∧ doubtful.linkSound ∧ Awaiting doubtful ⟨3, [], false, false⟩ ∧
    levelsOf false [char 0x04 1, char 0x32 0] ++ (levelsOf false [char 0x00 2, high, low] ++ [false, true]) ++ [] ++ [] ++ [] =
      levelsOf false [char 0x04 1, char 0x32 0, char 0x00 2, high, low] ++ [false, true] ∧
    (∀ u ∈ [char 0x04 1, char 0x32 0, char 0x00 2, high, low], u.good = true) ∧ (0x04 : Byte).toNat = addressOf 3 :=
  ⟨settled_of_calm (by decide), by decide, ⟨by decide, by decide, by decide⟩, by decide +kernel, by decide +kernel, by decide⟩

/-- A window that closes; a marker at 1 and a bad stop bit; and a check that fails. -/
theorem witness_MissJudged :
    doubtful.settled ∧ doubtful.linkSound ∧ Awaiting doubtful ⟨3, [], false, false⟩ ∧
    (∀ u ∈ [⟨0, 0, 4, true, true⟩, (⟨0, 0, 4, false, false⟩ : LineSegment)], u.marker = true ∨ u.stop = false) ∧
    (levelsOf false [⟨0, 0, 4, false, false⟩, ⟨2, 1, 0, false, true⟩, char 0 0, char 0 0, char 0 0] =
      characterBits 4 false false ++ [false, false, true, true] ++ bits 0 ++ bits 0 ++ bits 0 ++ bits 0) ∧
    (¬ ∃ u ∈ [char 4 0, char 0 0, char 0 0, char 0 0, char 0 0], u.marker = true ∨ u.stop = false) ∧
    (char 0 0).data ≠ (crc16 [0x04, 0x00, 0x00]).extractLsb' 8 8 :=
  ⟨settled_of_calm (by decide), by decide, ⟨by decide, by decide, by decide⟩, by decide, by decide, by decide,
    by decide +kernel⟩

/-- Bit clocks of no more than the slots, and of four more. -/
theorem clocksOf_enough : ∀ more ∈ [0, 4], 256 ≤ (clocksOf (period [] []) more).length := by
  intro more _
  simp [clocksOf]

theorem witness_SamplePeriodFillsTheAssembly :
    (∀ more ∈ [0, 4], 256 ≤ (clocksOf (period [] []) more).length) ∧
    ∀ n ∈ [0, 46], ∀ m ∈ [0, 1, 255],
      let s := { staffed with underway := broken m, assembly := List.replicate n (period [] []) }
      s.underway.length < 256 ∧ s.assembly.length + 1 < 48 :=
  ⟨clocksOf_enough, by simp [broken]⟩

/-- From STARTING, RUNNING and MISSING, the last in a period in which the watchdog ran out after 255 bit clocks. -/
def boundary (sync : SyncState) : State :=
  { staffed with
    sync := sync, watchdog := decide (sync ≠ .missing), audioClock := ⟨sync == .missing, sync == .missing⟩
    underway := if sync = .missing then broken 255 else [], assembly := List.replicate 47 (period [] []) }

theorem witness_FrameBoundaryHandsTheFrame :
    (∀ more ∈ [0, 4], 256 ≤ (clocksOf (period [] []) more).length) ∧
    (∀ sync, (boundary sync).underway.length < 256 ∧ (boundary sync).assembly.length = 47 ∧ (boundary sync).settled ∧
      (boundary sync).gateInput = none ∧ (boundary sync).mixInput = none) ∧
    ∃ u, FramesTaken { boundary .running with gateInput := some (frameOf (period [] [])) } u :=
  ⟨clocksOf_enough,
    fun sync => ⟨by cases sync <;> decide +kernel, by cases sync <;> rfl,
      settled_of_calm (by cases sync <;> decide +kernel), rfl, rfl⟩,
    _, _, _, rfl, rfl, rfl⟩

theorem witness_LanesBreakOff :
    (∀ sync, (boundary sync).underway.length < 256) ∧
    (boundary .running).settled ∧ (boundary .running).watchdog = true ∧ (boundary .running).gateInput = none ∧
    (boundary .running).mixInput = none ∧
    ∃ u, FramesTaken { boundary .running with gateInput := some (frameOf (period [] [])) } u :=
  ⟨fun sync => by cases sync <;> decide +kernel, settled_of_calm (by decide), by decide, rfl, rfl,
    _, _, _, rfl, rfl, rfl⟩

theorem witness_FrameWorkTracksAndFlags :
    before800.settle.settled ∧ before800.settle.talkersSound ∧ before800.settle.gateInput = before800.gateInput ∧
    before800.gateInput.isSome = true := by
  refine ⟨State.settled_settle _, ?_, by simp, by decide⟩
  decide

theorem witness_FrameWorkSettlesTheTalkerList :
    before800.settle.settled ∧ before800.settle.talkersSound ∧
    (∃ w, before800.settle.gateInput = some w ∧ ∃ p, before800.settle.candidate w p) := by
  refine ⟨State.settled_settle _, by decide, _, rfl, 19, by decide +kernel, by decide +kernel, by decide +kernel⟩

theorem witness_MixFrameEventMovesTheGains :
    callRoom.settle.settled ∧ callRoom.settle.gainsSound ∧ callRoom.settle.tablesSound ∧ callRoom.settle.linkSound ∧
    (∃ w, callRoom.settle.mixInput = some w ∧ w.deliver = true) ∧
    (∃ w, { callRoom with mixInput := some ⟨[], false⟩ }.mixInput = some w ∧ w.deliver = false) := by
  refine ⟨State.settled_settle _, by decide, by decide, by decide, ⟨_, rfl, rfl⟩, ⟨_, rfl, rfl⟩⟩

theorem witness_MixFrameEventFormsTheOutputs :
    callRoom.settle.settled ∧ ∃ w, callRoom.settle.mixInput = some w ∧ w.deliver = true ∧ w.samples.length = 1 := by
  exact ⟨State.settled_settle _, _, rfl, rfl, rfl⟩

/-- Two sample periods that differ in leg 0's slot alone, with leg 0 OPEN. -/
theorem witness_NoLegHearsItself :
    let l := period [(2, 1200000)] [(0, 500000), (1, 7)]
    let l' := period [(2, 1200000)] [(0, -9), (1, 7)]
    legSample l 0 ≠ legSample l' 0 ∧ (callRoom.leg 0).state = .opened ∧
    (∀ (k : Nat) (a a' : LaneInput), [l][k]? = some a → [l'][k]? = some a' →
      (∀ p, podSample a p = podSample a' p) ∧ ∀ m, m ≠ 0 → legSample a m = legSample a' m) ∧
    (∃ t, exec .mixFrameEvent { callRoom with mixInput := some ⟨[l], true⟩ } = .next t) ∧
    ∃ t, exec .mixFrameEvent { callRoom with mixInput := some ⟨[l'], true⟩ } = .next t := by
  refine ⟨by decide, by decide, fun k a a' h h' => ?_, ⟨_, rfl⟩, ⟨_, rfl⟩⟩
  match k with
  | 0 =>
    obtain rfl : _ = a := Option.some.inj h
    obtain rfl : _ = a' := Option.some.inj h'
    decide
  | k + 1 => cases h

/-- A sound state with a command at the front of its queue: a poll judged with talkers in the list. -/
def busy : State := { fullList with slot := some ⟨3, [], false, false⟩, pending := [.replyWindowCloses, .resetN], sync := .running }.settle

theorem busy_sound : busy.sound := sound_of_parts (by decide) ⟨by decide, trivial⟩

theorem busy_steps : ∃ t, step busy = .next t := ⟨_, rfl⟩

theorem witness_IndicatorsFollowTheMute : busy.settled ∧ ∃ t, step busy = .next t ∧ (t.pod 2).listed = true :=
  ⟨busy_sound.settled, _, rfl, by decide⟩

theorem witness_TablesGainsAndClosedLegsKept :
    busy.tablesSound ∧ busy.legsSound ∧ busy.gainsSound ∧ ∃ t, step busy = .next t :=
  ⟨busy_sound.tables, busy_sound.legs, busy_sound.gains, busy_steps⟩

theorem witness_PortsAndQueuesKept : busy.portsSound ∧ ∃ t, step busy = .next t := ⟨busy_sound.ports, busy_steps⟩

theorem witness_TalkerListKept : busy.sound ∧ ∃ t, step busy = .next t := ⟨busy_sound, busy_steps⟩

theorem witness_LinkHoldsAndFaultsKept : busy.sound ∧ ∃ t, step busy = .next t := ⟨busy_sound, busy_steps⟩

theorem witness_OutputFramesKept : busy.sound ∧ ∃ t, step busy = .next t := ⟨busy_sound, busy_steps⟩

theorem witness_StoreAndCommitMapKept :
    let s := { staffed with storeOp := .committing 7, commitMap := 1, pending := [.storeCompletion] }
    s.storeSound ∧ (∃ t, step s = .next t) ∧ s.installer = false ∧ s.commitMap.getLsbD 0 = true ∧
      ∀ install, s.pending.head? ≠ some (.powerUp install) :=
  ⟨⟨by decide, by decide⟩, ⟨_, rfl⟩, rfl, by decide, fun _ h => by cases h⟩

theorem witness_EveryStepKeepsTheLaws : busy.sound ∧ ∃ t, step busy = .next t := ⟨busy_sound, busy_steps⟩

/-- After reset nothing is due, waiting or running; a request row whose frame is behind another, and one with an empty queue; a slot whose pod was unlisted awaits a reply to discard; four characters and ten bits of a fifth; and a frame shifted out already. -/
theorem witness_EventsThatFindNothing :
    ((State.reset.pod 0).shortDue = 0 ∧ (State.reset.pod 0).longDue = 0 ∧ State.reset.gateInput = none ∧
      State.reset.mixInput = none ∧ (State.reset.port 0).state = .detached ∧ State.reset.storeOp = .idle ∧
      State.reset.lateStores = 0 ∧ State.reset.lateBlocks = 0 ∧
      State.reset.slot = none ∧ (State.reset.port 0).transaction = none) ∧
    { State.reset with watchdog := false }.watchdog = false ∧
    ((∀ f ∈ (State.reset.port 0).requests.head?, f.row ≠ .leave) ∧
      ∀ f ∈ ((shifting four true [goodFrame 0x46 [], goodFrame 0x02 []]).port 1).requests.head?, f.row ≠ .leave) ∧
    ({ State.reset with slot := some ⟨3, [], false, true⟩ }.settled) ∧
    { staffed with storeOp := .erasing 7 15 }.storeOp = .erasing 7 15 ∧
    (bits 1 ++ bits 2 ++ bits 3 ++ bits 4 ++ List.replicate 10 false =
      levelsOf false [char 1 0, char 2 0, char 3 0, char 4 0] ++ List.replicate 10 false) ∧
    (((after (exec (.replyFullyShiftedOut 1) (shifting four true []))).port 1).transaction.map Transaction.complete =
      some true) ∧
    ((shifting four true []).port 1).transaction ≠ none ∧ ((clocksOf (period [] []) 0).take 255).length < 256 :=
  ⟨by decide, rfl, by decide, settled_of_calm (by decide), rfl, by decide, by decide, by decide, by simp [clocksOf]⟩

end Sys2Proof.Tests
end

section
/-! What the turn of an executed request leaves, and the ROSTER requests CHAIR and CLASS (R4, R5, R9, R10). -/

namespace Sys2Proof.Machine

/-! ### Pod sets on the wire (R5, R182) -/

@[simp] theorem PodSet.has_podSetWhere (f : PodId → Bool) (p : PodId) : PodSet.has (podSetWhere f) p = f p := by
  simp [PodSet.has, podSetWhere]

/-- Bit p of a set operand names pod p. -/
@[simp] theorem PodSet.has_podsNamed (word : Nat) (p : PodId) :
    PodSet.has (podsNamed word) p = word.testBit (addressOf p) := by
  simp [PodSet.has, podsNamed, addressOf, Nat.testBit_succ, BitVec.getLsbD_ofNat, -BitVec.getLsbD_eq_getElem]

/-- Bit p of the number that a set's four bytes carry is pod p. -/
@[simp] theorem podSetWord_testBit_addressOf (x : PodSet) (p : PodId) :
    (podSetWord x).testBit (addressOf p) = PodSet.has x p := by
  simp [PodSet.has, podSetWord, addressOf, Nat.testBit_succ, BitVec.getLsbD]

/-- The number that a set's bytes carry has no bit that names no pod. -/
theorem podSetWord_testBit_of_no_pod (x : PodSet) {i : Nat} (h : ∀ p, addressOf p ≠ i) :
    (podSetWord x).testBit i = false := by
  cases i with
  | zero => simp [podSetWord]
  | succ j =>
    have hj : 24 ≤ j := by
      by_contra hlt
      exact h ⟨j, by omega⟩ rfl
    rw [podSetWord, Nat.testBit_succ, Nat.mul_div_cancel_left _ Nat.two_pos]
    exact BitVec.getLsbD_of_ge x j hj

theorem addressOf_injective : Function.Injective addressOf :=
  fun _ _ h => Fin.ext (Nat.succ.inj h)

@[simp] theorem State.namesListed_addressOf (s : State) (p : PodId) : s.namesListed (addressOf p) = (s.pod p).listed := by
  rw [Bool.eq_iff_iff]
  simp [State.namesListed, allPods, addressOf_injective.eq_iff]

theorem State.namesListed_of_no_pod (s : State) {i : Nat} (h : ∀ p, addressOf p ≠ i) : s.namesListed i = false := by
  simp [State.namesListed, h]

@[simp] theorem podOfAddress_addressOf (p : PodId) : podOfAddress (addressOf p) = some p := by
  simp [podOfAddress, addressOf]

/-- A set keeps the members of a word that pass a test when it does so at every pod, and the test fails elsewhere. -/
theorem keeps_podSetWord {word : Nat} {x : PodSet} {ok : Nat → Bool}
    (pods : ∀ p, PodSet.has x p = (word.testBit (addressOf p) && ok (addressOf p)))
    (others : ∀ i, (∀ p, addressOf p ≠ i) → ok i = false) : Keeps word (podSetWord x) ok := by
  intro i
  by_cases hi : ∃ p, addressOf p = i
  · obtain ⟨p, rfl⟩ := hi
    rw [podSetWord_testBit_addressOf, pods]
  · have hi' : ∀ p, addressOf p ≠ i := fun p hp => hi ⟨p, hp⟩
    rw [podSetWord_testBit_of_no_pod x hi', others i hi', Bool.and_false]

/-- The applied set of R24 and R9: the named pods that are listed. -/
theorem State.keeps_listedNamed (s : State) (word : Nat) :
    Keeps word (podSetWord (s.listedNamed word)) s.namesListed :=
  keeps_podSetWord (fun p => by simp [State.listedNamed]) fun _ => s.namesListed_of_no_pod

/-! ### Changes of pod and of port records pass by one another -/

theorem State.mapPods_modPort (s : State) (q : PortId) (g : Port → Port) (f : PodId → Pod → Pod) :
    (s.modPort q g).mapPods f = (s.mapPods f).modPort q g := by
  simp only [State.modPort, State.mapPorts, State.mapPods, State.pod, State.port]

/-- A change of the pod records that changes none leaves the state as it stands. -/
theorem State.mapPods_eq_self_iff (s : State) (f : PodId → Pod → Pod) :
    s.mapPods f = s ↔ ∀ p, f p (s.pod p) = s.pod p := by
  constructor
  · intro h p
    simpa using congrArg (fun t => State.pod t p) h
  · intro h
    exact State.ext_records (fun p => by simp [h p]) (fun m => by simp) (fun q => by simp)
      (by simp only [State.mapPods])

/-! ### The end of a turn (R151, R158, R160) -/

/-- What the end of an event reads and writes of a pod record (R55, R58, R68). -/
def Pod.settling (pod : Pod) : Bool × HoldSet × Bool × Ramp × GateState × Bool × Pattern :=
  (pod.listed, pod.holds, pod.mutedTalk, pod.muteEnv, pod.gate, pod.flagCopy, pod.pattern)

/-- A settled state stays settled under a change that the end of an event does not see. -/
theorem State.settled_congr {s t : State} (h : s.settled) (pods : ∀ p, (t.pod p).settling = (s.pod p).settling)
    (ports : t.ports = s.ports) (privacy : t.privacy = s.privacy) (talks : ∀ p, t.talks p = s.talks p)
    (gate : ∀ p, t.gateOf p = s.gateOf p) : t.settled := by
  rw [State.settled_iff] at h ⊢
  obtain ⟨hpods, hports⟩ := h
  refine ⟨fun p => ?_, fun q => ?_⟩
  · have hp := pods p
    simp only [Pod.settling, Prod.mk.injEq] at hp
    obtain ⟨hlisted, hholds, htalk, henv, hgate, hcopy, hpattern⟩ := hp
    have hsame : t.patternOf p = s.patternOf p := by
      simp only [State.patternOf, State.muted_congr hlisted hholds privacy, talks p, hlisted, hholds, htalk, henv, privacy]
    rw [hgate, hcopy, hpattern, htalk, gate, hsame]
    exact hpods p
  · have hq : t.port q = s.port q := by simp only [State.port, ports]
    rw [hq]
    exact hports q

theorem State.mapPorts_mapPorts (s : State) (f g : PortId → Port → Port) :
    (s.mapPorts f).mapPorts g = s.mapPorts fun q port => g q (f q port) := by
  simp [State.mapPorts]

theorem State.mapPorts_congr {s : State} {f g : PortId → Port → Port} (h : ∀ q, f q (s.port q) = g q (s.port q)) :
    s.mapPorts f = s.mapPorts g := by
  simp only [State.mapPorts, h]

theorem State.raiseIf_eq_mapPorts (s : State) (b : Bool) (c : Category) :
    s.raiseIf b c = s.mapPorts fun _ port => if b then port.notify c else port := by
  cases b with
  | false =>
    exact State.ext_records (fun p => by simp) (fun m => by simp) (fun q => by simp)
      (by simp only [State.raiseIf, Bool.false_eq_true, if_false, State.mapPorts])
  | true => rfl

/-- A pod record whose recomputed fields stand at their values already. -/
theorem Pod.recompute_eq_self {pod : Pod} {gate : GateState} {copy : Bool} {pattern : Pattern} (hgate : pod.gate = gate)
    (hcopy : pod.flagCopy = copy) (hpattern : pod.pattern = pattern) :
    { pod with gate := gate, flagCopy := copy, pattern := pattern } = pod := by
  subst hgate hcopy hpattern
  rfl

/-- After a settled state's ports alone have changed, the end of the event recomputes the attention lines alone. -/
theorem State.settle_mapPorts {s : State} (h : s.settled) (f : PortId → Port → Port) :
    (s.mapPorts f).settle = s.mapPorts fun q port => { f q port with attention := (f q port).wantsAttention } := by
  rw [State.settled_iff] at h
  obtain ⟨hpods, -⟩ := h
  unfold State.settle
  rw [(State.mapPods_eq_self_iff _ _).2, State.mapPorts_mapPorts]
  intro p
  obtain ⟨hgate, hcopy, hpattern⟩ := hpods p
  exact Pod.recompute_eq_self (by simpa using hgate) (by simpa using hcopy) (by simpa using hpattern)

/-- A notice of a category that is raised or not, with the attention line that follows it (R158, R160). -/
theorem Port.noticed_onlyIf {port : Port} (h : port.attention = port.wantsAttention) (b : Bool) (c : Category) :
    port.noticed (onlyIf b c) =
      let raised := if b then port.notify c else port
      { raised with attention := raised.wantsAttention } := by
  cases hj : port.joined with
  | false => cases b <;> simp [Port.noticed, Port.notify, hj, ← h]
  | true => cases b <;> simp [Port.noticed, onlyIf, Port.notify, hj, Port.wantsAttention]

/-- What a notice does to a port does not depend on its request queue. -/
theorem Port.notify_requests (c : Category) (port : Port) (rest : List RequestFrame) :
    Port.notify c { port with requests := rest } = { port.notify c with requests := rest } := by
  simp only [Port.notify_eq]
  rfl

/-- The state once the head frame of a port has left its request queue. -/
def State.headTaken (s : State) (q : PortId) (rest : List RequestFrame) : State :=
  s.modPort q fun port => { port with requests := rest }

@[simp] theorem State.pod_headTaken (s : State) (q : PortId) (rest : List RequestFrame) (p : PodId) :
    (s.headTaken q rest).pod p = s.pod p := by
  simp [State.headTaken]

@[simp] theorem State.listedNamed_headTaken (s : State) (q : PortId) (rest : List RequestFrame) (word : Nat) :
    (s.headTaken q rest).listedNamed word = s.listedNamed word := by
  simp [State.listedNamed]

/-- In a settled state a port's head frame leaves, a category may be raised and the reply joins: what stands at the end of the event. -/
theorem State.settle_turn {s : State} (h : s.settled) (q : PortId) (rest : List RequestFrame) (b : Bool) (c : Category)
    (r : Reply) :
    (((s.headTaken q rest).raiseIf b c).queueReply q r).settle = (s.noticed (onlyIf b c)).answered q rest r := by
  have hports := ((State.settled_iff s).1 h).2
  simp only [State.raiseIf_eq_mapPorts, State.headTaken, State.queueReply, State.noticed, State.answered, State.modPort,
    State.mapPorts_mapPorts, State.settle_mapPorts h]
  refine State.mapPorts_congr fun k => ?_
  rw [Port.noticed_onlyIf (hports k)]
  by_cases hk : k = q
  · cases b <;> simp [hk, Port.notify_requests, Port.answered, Port.wantsAttention]
  · simp [hk]

/-! ### The turn of a request that is executed -/

theorem JoinedAs.joined {s : State} {q : PortId} {role : Role} (h : JoinedAs s q role) : (s.port q).joined = true := by
  simpa [Port.joined] using h.state

/-- A port keeps its role when its head frame leaves its request queue. -/
theorem JoinedAs.headTaken {s : State} {q : PortId} {role : Role} (h : JoinedAs s q role) (rest : List RequestFrame) :
    JoinedAs (s.headTaken q rest) q role :=
  ⟨by simpa [State.headTaken] using h.state, by simpa [State.headTaken] using h.role⟩

/-- The role that a port holds decides which requests it may send (Table 9-3). -/
theorem JoinedAs.roleIn {s : State} {q : PortId} {role : Role} (h : JoinedAs s q role) (roles : List Role) :
    s.roleIn q roles = roles.contains role := by
  simp only [State.roleIn, h.role]

/-- The turn of a joined port's head frame whose request is executed: the row's effects, its reply and the end of the event. -/
theorem AtTurn.takeTurn_ok {s t : State} {q : PortId} {f : RequestFrame} {rest : List RequestFrame} {row : RequestRow}
    {request : Request} {role : Role} {a : Answer} (h : AtTurn s q f rest) (hj : JoinedAs s q role) (hrow : f.row = row)
    (ho : request q f (s.headTaken q rest) = .ok (a, t)) :
    takeTurn row request q s = (t.queueReply q ⟨a.status, f.code, a.payload⟩).settle := by
  have houtcome : outcomeOf row request q f (s.headTaken q rest) = .ok (a, t) := by
    simp [outcomeOf, (hj.headTaken rest).joined, ensure, ho]
  rw [takeTurn_head row request h.requests h.room hrow, ← State.headTaken, houtcome]
  rfl

/-- The turn of an executed request whose effects leave a settled state but for a category that may be raised. -/
theorem AtTurn.takeTurn_applied {s t : State} {q : PortId} {f : RequestFrame} {rest : List RequestFrame} {row : RequestRow}
    {request : Request} {role : Role} {same b : Bool} {payload : List Byte} {c : Category} (h : AtTurn s q f rest)
    (hj : JoinedAs s q role) (hrow : f.row = row) (ht : t.settled)
    (ho : request q f (s.headTaken q rest) = answerApplied same payload ((t.headTaken q rest).raiseIf b c)) :
    takeTurn row request q s = (t.noticed (onlyIf b c)).answered q rest ⟨doneIf same, f.code, payload⟩ := by
  rw [h.takeTurn_ok hj hrow ho, State.settle_turn ht]

theorem doneIf_beq (a b : Nat) : doneIf (a == b) = if a = b then .done else .clamped := by
  simp [doneIf]

/-! ### ROSTER CHAIR (R9) -/

theorem exec_rosterChair (q : PortId) (s : State) :
    exec (.rosterChair q) s = .next (takeTurn .rosterChair requestRosterChair q s) := rfl

theorem row_rosterChair (operands : List Byte) : (goodFrame 0x32 (0x02 :: operands)).row = .rosterChair := rfl

/-- The byte of a CHAIR choice (Table 12-2). -/
def chairByte (on : Bool) : Byte := if on then 1 else 0

@[simp] theorem chairChoiceOfCode_chairByte (on : Bool) : chairChoiceOfCode (number [chairByte on]) = some on := by
  cases on <;> rfl

/-- CHAIR with a choice and a set of one to four bytes, from ROOM, passes the checks of R4. -/
theorem rosterChecks_chair {s : State} {q : PortId} {on : Bool} {set : List Byte} (hj : JoinedAs s q .room)
    (hmin : 1 ≤ set.length) (hmax : set.length ≤ 4) (k : Outcome) :
    rosterChecks q (0x02 :: chairByte on :: set) s k = k := by
  have hlength : rosterLengthFits (0x02 :: chairByte on :: set) = true := by
    simp [rosterLengthFits, rosterOpOfCode, isSetLength, hmin, hmax]
  have hop : rosterOpOfCode (number [(0x02 : Byte)]) = some .chair := rfl
  simp only [rosterChecks, ensure, hlength, List.take_succ_cons, List.take_zero, List.drop_succ_cons, List.drop_zero, hop,
    chairChoiceOfCode_chairByte, hj.roleIn, Option.isSome_some, if_true]
  rfl

/-- CLASS with an address and a class, from ROOM, passes the checks of R4. -/
theorem rosterChecks_class {s : State} {q : PortId} (hj : JoinedAs s q .room) (a v : Byte) (k : Outcome) :
    rosterChecks q [0x03, a, v] s k = k := by
  simp [rosterChecks, ensure, rosterLengthFits, rosterOpOfCode, number, hj.roleIn]

/-- The state with the pods of a set in the chair set, or out of it, and nothing else changed. -/
def State.withChairs (s : State) (applied : PodSet) (on : Bool) : State :=
  s.mapPods fun p pod => if PodSet.has applied p then { pod with chair := on } else pod

theorem Pod.withChair_eq_self_iff (pod : Pod) (on : Bool) : { pod with chair := on } = pod ↔ pod.chair = on :=
  ⟨fun h => by rw [← h], fun h => by rw [← h]⟩

/-- The chair set changes where a pod of the applied set stands on its other side. -/
theorem State.withChairs_ne_iff (s : State) (applied : PodSet) (on : Bool) :
    s.withChairs applied on ≠ s ↔ ∃ p, PodSet.has applied p = true ∧ (s.pod p).chair ≠ on := by
  simp only [State.withChairs, ne_eq, State.mapPods_eq_self_iff, not_forall]
  refine exists_congr fun p => ?_
  split <;> simp_all [Pod.withChair_eq_self_iff]

/-- The pods of the applied set change sides, and PODS is raised when one did (R9), once the head frame has left. -/
theorem State.setChairs_headTaken (s : State) (q : PortId) (rest : List RequestFrame) (applied : PodSet) (on : Bool) :
    (s.headTaken q rest).setChairs applied on =
      ((s.withChairs applied on).headTaken q rest).raiseIf (decide (s.withChairs applied on ≠ s)) .pods := by
  have hchanged : (allPods.any fun p => PodSet.has applied p && (s.pod p).chair != on) =
      decide (s.withChairs applied on ≠ s) := by
    rw [Bool.eq_iff_iff]
    simp [State.withChairs_ne_iff, allPods]
  simp only [State.setChairs, State.pod_headTaken, hchanged]
  rw [State.headTaken, State.mapPods_modPort]
  rfl

theorem State.settled_withChairs {s : State} (h : s.settled) (applied : PodSet) (on : Bool) :
    (s.withChairs applied on).settled := by
  refine State.settled_congr h (fun p => ?_) (by simp [State.withChairs]) (by simp [State.withChairs])
    (fun p => State.talks_congr p (by simp [State.withChairs])) fun p => State.gateOf_congr p (by simp [State.withChairs])
  simp only [State.withChairs, State.pod_mapPods]
  split <;> rfl

/-- What ROSTER CHAIR does once its checks are passed (R5, R9). -/
theorem requestRosterChair_ok {s : State} {q : PortId} {on : Bool} {set : List Byte} (hj : JoinedAs s q .room)
    (hmin : 1 ≤ set.length) (hmax : set.length ≤ 4) :
    requestRosterChair q (goodFrame 0x32 (0x02 :: chairByte on :: set)) s =
      answerApplied (podSetWord (s.listedNamed (number set)) == number set)
        (0x02 :: chairByte on :: bigEndian 4 (podSetWord (s.listedNamed (number set))))
        (s.setChairs (s.listedNamed (number set)) on) := by
  simp only [requestRosterChair, goodFrame]
  rw [rosterChecks_chair hj hmin hmax]
  simp

/-- The turn of ROSTER CHAIR: the applied pods change sides, PODS is raised by a change, and the applied set is answered (R5, R9). -/
theorem exec_rosterChair_atTurn {s : State} {q : PortId} {rest : List RequestFrame} {on : Bool} {set : List Byte}
    (hj : JoinedAs s q .room) (hmin : 1 ≤ set.length) (hmax : set.length ≤ 4)
    (h : AtTurn s q (goodFrame 0x32 (0x02 :: chairByte on :: set)) rest) :
    let applied := s.listedNamed (number set)
    let set1 := s.withChairs applied on
    exec (.rosterChair q) s = .next ((set1.noticed (onlyIf (decide (set1 ≠ s)) .pods)).answered q rest
      ⟨if podSetWord applied = number set then .done else .clamped, 0x32,
        0x02 :: chairByte on :: bigEndian 4 (podSetWord applied)⟩) := by
  intro applied set1
  have ho := requestRosterChair_ok (on := on) (hj.headTaken rest) hmin hmax
  rw [State.listedNamed_headTaken, State.setChairs_headTaken] at ho
  rw [exec_rosterChair, h.takeTurn_applied hj (row_rosterChair _) (State.settled_withChairs h.settled _ _) ho, doneIf_beq]
  rfl

/-! ### ROSTER CLASS (R10) -/

theorem exec_rosterClass (q : PortId) (s : State) :
    exec (.rosterClass q) s = .next (takeTurn .rosterClass requestRosterClass q s) := rfl

theorem row_rosterClass (operands : List Byte) : (goodFrame 0x32 (0x03 :: operands)).row = .rosterClass := rfl

/-- Entries that change neither pod nor state leave who talks and every gate state as they are (R68). -/
theorem State.talks_gateOf_map {s t : State} {f : Talker → Talker} (hpod : ∀ e, (f e).pod = e.pod)
    (hstate : ∀ e, (f e).state = e.state) (h : t.talkers = s.talkers.map f) (p : PodId) :
    t.talks p = s.talks p ∧ t.gateOf p = s.gateOf p := by
  have hfind : (fun e : Talker => e.pod == p) ∘ f = fun e => e.pod == p := funext fun e => by simp [hpod]
  constructor
  · simp only [State.talks, h, List.any_map, hfind]
  · simp only [State.gateOf, h, List.find?_map, hfind]
    cases s.talkers.find? fun e => e.pod == p with
    | none => rfl
    | some e => simp [hstate]

/-- A pod's class and that of its talker entry change nothing that the end of an event sees. -/
theorem State.settled_setClass {s : State} (h : s.settled) (p : PodId) (c : Nat) : (s.setClass p c).settled := by
  have hfollows := State.talks_gateOf_map (s := s) (t := s.setClass p c)
    (f := fun e => if e.pod = p then { e with cls := c } else e) (fun e => by split <;> rfl) (fun e => by split <;> rfl) rfl
  refine State.settled_congr h (fun k => ?_) (by simp [State.setClass]) (by simp [State.setClass])
    (fun k => (hfollows k).1) fun k => (hfollows k).2
  have hpod : (s.setClass p c).pod k = if k = p then { s.pod k with cls := c } else s.pod k := by
    simp [State.setClass]
  rw [hpod]
  split <;> rfl

theorem State.setClass_headTaken (s : State) (q : PortId) (rest : List RequestFrame) (p : PodId) (c : Nat) :
    (s.headTaken q rest).setClass p c = (s.setClass p c).headTaken q rest := by
  simp only [State.setClass, State.headTaken, State.modPod, State.modPort, State.mapPods, State.mapPorts, State.pod, State.port]

/-- What ROSTER CLASS does once its checks are passed (R5, R10). -/
theorem requestRosterClass_ok {s : State} {q : PortId} {p : PodId} {a v : Byte} (hj : JoinedAs s q .room)
    (ha : a.toNat = addressOf p) :
    requestRosterClass q (goodFrame 0x32 [0x03, a, v]) s =
      answerApplied (min maxClass v.toNat == v.toNat) [0x03, a, byteOf (min maxClass v.toNat)]
        ((s.setClass p (min maxClass v.toNat)).raiseIf ((s.pod p).cls != min maxClass v.toNat) .pods) := by
  simp only [requestRosterClass, goodFrame]
  rw [rosterChecks_class hj]
  simp [number, ha]

/-- The turn of ROSTER CLASS: the pod's class and that of its entry, PODS on a change, and the class applied (R5, R10). -/
theorem exec_rosterClass_atTurn {s : State} {q : PortId} {rest : List RequestFrame} {p : PodId} {a v : Byte}
    (hj : JoinedAs s q .room) (ha : a.toNat = addressOf p) (h : AtTurn s q (goodFrame 0x32 [0x03, a, v]) rest) :
    let c := min maxClass v.toNat
    exec (.rosterClass q) s = .next (((s.setClass p c).noticed (onlyIf ((s.pod p).cls != c) .pods)).answered q rest
      ⟨if c = v.toNat then .done else .clamped, 0x32, [0x03, a, byteOf c]⟩) := by
  intro c
  have ho := requestRosterClass_ok (v := v) (hj.headTaken rest) ha
  rw [State.setClass_headTaken, State.pod_headTaken] at ho
  rw [exec_rosterClass, h.takeTurn_applied hj (row_rosterClass _) (State.settled_setClass h.settled _ _) ho, doneIf_beq]
  rfl

end Sys2Proof.Machine

open Sys2Proof Sys2Proof.Machine

/-- Settles O29: the turn of each of the two requests, and the applied set of CHAIR as the listed pods named. -/
theorem rosterChairAndClass : Obligations.RosterChairAndClass := by
  unfold Obligations.RosterChairAndClass
  intro s q rest hj
  constructor
  · intro on set hmin hmax choice hturn
    refine ⟨podSetWord (s.listedNamed (number set)), s.keeps_listedNamed _, ?_⟩
    simp only [podSetWord_testBit_addressOf]
    exact exec_rosterChair_atTurn hj hmin hmax hturn
  · intro p a v ha hturn
    have hclamp : min maxClass v.toNat = v.toNat ↔ v.toNat ≤ 3 := min_eq_right_iff
    have hexec := exec_rosterClass_atTurn hj ha hturn
    simp only [hclamp] at hexec
    exact hexec

end

section
/-! What an event at MA leaves (R21, R22), RELEASE_ALL and the privacy requests (R24, R28 to R30), and the presses of pods (R32 to R36). -/

namespace Sys2Proof.Machine

/-! ### Notices of two categories in one event (R158, R160) -/

/-- A port at the end of an event: its attention line follows its queue and its pending set (R160). -/
def Port.refreshed (port : Port) : Port := { port with attention := port.wantsAttention }

@[simp] theorem Port.joined_pendingSet (port : Port) (cs : CategorySet) :
    { port with pendingSet := cs }.joined = port.joined := rfl

/-- Two categories that are each raised or not, and the attention line that follows them. -/
theorem Port.noticed_two {port : Port} (h : port.attention = port.wantsAttention) (a b : Bool) (c d : Category) :
    port.noticed (onlyIf a c ||| onlyIf b d) =
      let first := if a then port.notify c else port
      (if b then first.notify d else first).refreshed := by
  cases hj : port.joined with
  | false => cases a <;> cases b <;> simp [Port.noticed, Port.notify, Port.refreshed, hj, ← h]
  | true =>
    cases a <;> cases b <;>
      simp [Port.noticed, onlyIf, Port.notify, Port.refreshed, hj, Port.wantsAttention, BitVec.and_or_distrib_left,
        BitVec.or_assoc]

/-! ### What R21 and R22 read of the state before the event -/

/-- What an event at MA reads of the state in which it begins: listing, hold sets and the privacy record (R20, R22). -/
theorem takeHoldChange_congr {s before : State} (listed : ∀ p, (before.pod p).listed = (s.pod p).listed)
    (holds : ∀ p, (before.pod p).holds = (s.pod p).holds) (privacy : before.privacy = s.privacy)
    (legs : ∀ m, before.leg m = s.leg m) (after : State) : takeHoldChange before after = takeHoldChange s after := by
  have hmuted : before.muted = s.muted := funext fun p => State.muted_congr (listed p) (holds p) privacy
  have hunmuted : before.unmuted = s.unmuted := funext fun p => State.unmuted_congr (listed p) (holds p) privacy
  have hdiffer : holdsDiffer before after = holdsDiffer s after := by simp only [holdsDiffer, holds, privacy, legs]
  simp only [takeHoldChange, hmuted, hunmuted, hdiffer]

/-! ### The end of an event at MA -/

/-- The state that an event at MA leaves (R21, R22), once it has changed hold sets or the privacy record of `s` to those of `after`. -/
def holdEvent (s after : State) : State := (takeHoldChange s after).settle

/-- What an event at MA has not touched before R21 is applied: muted-talk flags, the talker list and the ports. -/
structure HoldChange (s after : State) : Prop where
  flags : ∀ p, (after.pod p).mutedTalk = (s.pod p).mutedTalk
  talkers : after.talkers = s.talkers
  ports : after.ports = s.ports

section
variable (s after : State) (p : PodId) (m : LegId)

@[simp] theorem privacy_holdEvent : (holdEvent s after).privacy = after.privacy := by simp [holdEvent]

@[simp] theorem leg_holdEvent : (holdEvent s after).leg m = after.leg m := by simp [holdEvent]

@[simp] theorem holds_holdEvent : ((holdEvent s after).pod p).holds = (after.pod p).holds := by simp [holdEvent]

@[simp] theorem muted_holdEvent : (holdEvent s after).muted p = after.muted p :=
  State.muted_congr (by simp [holdEvent]) (by simp) (by simp)

@[simp] theorem unmuted_holdEvent : (holdEvent s after).unmuted p = after.unmuted p :=
  State.unmuted_congr (by simp [holdEvent]) (by simp) (by simp)

@[simp] theorem holdsDiffer_holdEvent : holdsDiffer s (holdEvent s after) = holdsDiffer s after := by
  simp only [holdsDiffer, privacy_holdEvent, holds_holdEvent, leg_holdEvent]

/-- An event at MA changes pods, ports and the talker list alone beside what it was asked to change. -/
theorem holdEvent_eq : holdEvent s after = { after with
    pods := (holdEvent s after).pods, talkers := (holdEvent s after).talkers, ports := (holdEvent s after).ports } := by
  simp only [holdEvent, takeHoldChange, State.raiseIf_eq_mapPorts, State.settle, State.mapPods, State.mapPorts]

end

namespace HoldChange

variable {s after : State}

/-- The talker list after an event at MA (R21). -/
theorem talkers_eq (h : HoldChange s after) : (holdEvent s after).talkers = talkersLeft s (holdEvent s after) := by
  simp only [talkersLeft, muted_holdEvent]
  simp [holdEvent, h.talkers]

/-- A muted-talk flag after an event at MA (R21). -/
theorem mutedTalk_eq (h : HoldChange s after) (p : PodId) :
    ((holdEvent s after).pod p).mutedTalk = flagLeft s (holdEvent s after) p := by
  simp only [flagLeft, unmuted_holdEvent]
  simp [holdEvent, h.flags]

/-- A pod record after an event at MA: its flag as R21 leaves it, and what follows. -/
theorem pod_eq (h : HoldChange s after) (p : PodId) : (holdEvent s after).pod p =
    ({ after.pod p with mutedTalk := flagLeft s (holdEvent s after) p } : Pod).following (holdEvent s after) p := by
  rw [← h.mutedTalk_eq]
  simp [holdEvent, Pod.following]

/-- TALKERS is raised when an entry or a flag has gone, that is when the list or a flag has changed (R21). -/
theorem talkersMoved_eq (h : HoldChange s after) : talkersMoved s (holdEvent s after) =
    ((after.talkers.any fun e => s.unmuted e.pod && after.muted e.pod) ||
      allPods.any fun p => (s.muted p && after.unmuted p) && (after.pod p).mutedTalk) := by
  have hlist : decide (s.talkers ≠ talkersLeft s (holdEvent s after)) =
      s.talkers.any fun e => s.unmuted e.pod && after.muted e.pod := by
    rw [Bool.eq_iff_iff]
    simp [talkersLeft, eq_comm (a := s.talkers), List.filter_eq_self]
  have hflag : ∀ p, ((s.pod p).mutedTalk != flagLeft s (holdEvent s after) p) =
      ((s.muted p && after.unmuted p) && (s.pod p).mutedTalk) := by
    intro p
    simp only [flagLeft, unmuted_holdEvent]
    cases (s.pod p).mutedTalk <;> simp
  simp only [talkersMoved, h.talkers_eq, h.mutedTalk_eq, hlist, hflag, h.talkers, h.flags]

/-- The ports after an event at MA: HOLDS and TALKERS where they are raised, and the attention lines (R21, R22, R160). -/
theorem ports_eq (h : HoldChange s after) (hs : s.settled) :
    (holdEvent s after).ports = (s.noticed (holdNotices s (holdEvent s after))).ports := by
  refine State.ports_ext fun q => ?_
  have hport : after.port q = s.port q := by simp only [State.port, h.ports]
  have hattention := ((State.settled_iff s).1 hs).2 q
  simp only [State.noticed, State.port_mapPorts, holdNotices, Port.noticed_two hattention, holdsDiffer_holdEvent,
    h.talkersMoved_eq]
  rw [holdEvent, State.port_settle, State.port_takeHoldChange, hport]
  rfl

/-- All that an event at MA leaves as it stands, when what it was asked to change of `base` is its pods alone. -/
theorem holdEvent_frame {base : State} (h : HoldChange s after) (hs : s.settled)
    (hbase : after = { base with pods := after.pods }) : holdEvent s after = { base with
      pods := (holdEvent s after).pods, talkers := talkersLeft s (holdEvent s after)
      ports := (s.noticed (holdNotices s (holdEvent s after))).ports } := by
  rw [← h.talkers_eq, ← h.ports_eq hs]
  exact (holdEvent_eq s after).trans (congrArg (fun u : State => { u with
    pods := (holdEvent s after).pods, talkers := (holdEvent s after).talkers, ports := (holdEvent s after).ports }) hbase)

end HoldChange

/-! ### The turn of a request at MA (R151) -/

theorem State.mapPods_mapPorts (s : State) (f : PortId → Port → Port) (g : PodId → Pod → Pod) :
    (s.mapPorts f).mapPods g = (s.mapPods g).mapPorts f := by
  simp only [State.mapPods, State.mapPorts, State.pod, State.port]

theorem State.raiseIf_headTaken (s : State) (q : PortId) (rest : List RequestFrame) (b : Bool) (c : Category) :
    (s.headTaken q rest).raiseIf b c = (s.raiseIf b c).headTaken q rest := by
  simp only [State.raiseIf_eq_mapPorts, State.headTaken, State.modPort, State.mapPorts_mapPorts]
  refine State.mapPorts_congr fun k => ?_
  by_cases hk : k = q <;> cases b <;> simp [hk, Port.notify_requests]

section
variable (s : State) (q : PortId) (rest : List RequestFrame) (p : PodId) (m : LegId)

@[simp] theorem State.leg_headTaken : (s.headTaken q rest).leg m = s.leg m := by simp [State.headTaken]
@[simp] theorem State.privacy_headTaken : (s.headTaken q rest).privacy = s.privacy := by simp [State.headTaken]
@[simp] theorem State.talkers_headTaken : (s.headTaken q rest).talkers = s.talkers := by simp [State.headTaken]
@[simp] theorem State.muted_headTaken : (s.headTaken q rest).muted p = s.muted p := State.muted_mapPorts ..
@[simp] theorem State.unmuted_headTaken : (s.headTaken q rest).unmuted p = s.unmuted p := State.unmuted_mapPorts ..

theorem State.withTalkers_headTaken (l : List Talker) :
    { s.headTaken q rest with talkers := l } = ({ s with talkers := l } : State).headTaken q rest := by
  simp only [State.headTaken, State.modPort, State.mapPorts, State.port]

end

/-- A request queue takes no part in what MA does, whether in the state before its changes or in the one after them. -/
theorem takeHoldChange_headTaken (s after : State) (q : PortId) (rest : List RequestFrame) :
    takeHoldChange (s.headTaken q rest) (after.headTaken q rest) = (takeHoldChange s after).headTaken q rest := by
  have hdiffer : holdsDiffer s (after.headTaken q rest) = holdsDiffer s after := by simp [holdsDiffer]
  rw [takeHoldChange_congr (s := s) (by simp) (by simp) (by simp) (by simp)]
  simp only [takeHoldChange, State.muted_headTaken, State.unmuted_headTaken, State.talkers_headTaken,
    State.pod_headTaken, hdiffer, State.withTalkers_headTaken]
  rw [State.headTaken, State.mapPods_modPort, ← State.headTaken, State.raiseIf_headTaken, State.raiseIf_headTaken]

/-- The head frame leaves before the request's effects and its reply joins after them: what stands at the end of the event. -/
theorem State.settle_answered (s : State) (q : PortId) (rest : List RequestFrame) (r : Reply) :
    ((s.headTaken q rest).queueReply q r).settle = s.settle.answered q rest r := by
  simp only [State.headTaken, State.queueReply, State.answered, State.settle, State.modPort, State.mapPorts_mapPorts,
    State.gateOf_mapPorts, State.patternOf_mapPorts, State.mapPods_mapPorts]
  refine State.mapPorts_congr fun k => ?_
  by_cases hk : k = q <;> simp [hk, Port.answered, Port.wantsAttention]

section
variable (s t u : State) (q : PortId) (rest : List RequestFrame) (r : Reply) (p : PodId) (m : LegId)

@[simp] theorem State.pod_answered : (s.answered q rest r).pod p = s.pod p := by simp [State.answered]
@[simp] theorem State.pods_answered : (s.answered q rest r).pods = s.pods := by simp [State.answered]
@[simp] theorem State.leg_answered : (s.answered q rest r).leg m = s.leg m := by simp [State.answered]
@[simp] theorem State.privacy_answered : (s.answered q rest r).privacy = s.privacy := by simp [State.answered]
@[simp] theorem State.talkers_answered : (s.answered q rest r).talkers = s.talkers := by simp [State.answered]
@[simp] theorem State.muted_answered : (s.answered q rest r).muted p = s.muted p := State.muted_mapPorts ..
@[simp] theorem State.unmuted_answered : (s.answered q rest r).unmuted p = s.unmuted p := State.unmuted_mapPorts ..
@[simp] theorem State.gateOf_answered : (s.answered q rest r).gateOf p = s.gateOf p := State.gateOf_mapPorts ..
@[simp] theorem State.patternOf_answered : (s.answered q rest r).patternOf p = s.patternOf p := State.patternOf_mapPorts ..

@[simp] theorem talkersLeft_answered : talkersLeft s (t.answered q rest r) = talkersLeft s t := by simp [talkersLeft]
@[simp] theorem flagLeft_answered : flagLeft s (t.answered q rest r) p = flagLeft s t p := by simp [flagLeft]
@[simp] theorem holdNotices_answered : holdNotices s (t.answered q rest r) = holdNotices s t := by
  simp [holdNotices, holdsDiffer, talkersMoved]
@[simp] theorem Pod.following_answered (pod : Pod) : pod.following (t.answered q rest r) p = pod.following t p := by
  simp [Pod.following]

/-- An answer changes the port records alone, and these by what they were. -/
theorem State.answered_eq_of_ports (h : t.ports = u.ports) :
    t.answered q rest r = { t with ports := (u.answered q rest r).ports } := by
  simp only [State.answered, State.modPort, State.mapPorts, State.port, h]

end

/-- The turn of an executed request at MA. -/
theorem AtTurn.takeTurn_holdEvent {s after : State} {q : PortId} {f : RequestFrame} {rest : List RequestFrame}
    {row : RequestRow} {request : Request} {role : Role} {a : Answer} (h : AtTurn s q f rest) (hj : JoinedAs s q role)
    (hrow : f.row = row)
    (ho : request q f (s.headTaken q rest) = .ok (a, takeHoldChange (s.headTaken q rest) (after.headTaken q rest))) :
    takeTurn row request q s = (holdEvent s after).answered q rest ⟨a.status, f.code, a.payload⟩ := by
  rw [h.takeTurn_ok hj hrow ho, takeHoldChange_headTaken, State.settle_answered, holdEvent]

namespace HoldChange

variable {s after : State} (h : HoldChange s after) (q : PortId) (rest : List RequestFrame) (r : Reply)
include h

/-- When the request has changed no pod field but hold sets, every pod record is as `heldPods` says. -/
theorem heldPods_answered (hpods : ∀ p, after.pod p = { s.pod p with holds := (after.pod p).holds }) :
    heldPods s ((holdEvent s after).answered q rest r) := by
  intro p
  rw [State.pod_answered, flagLeft_answered, Pod.following_answered, holds_holdEvent, h.pod_eq, hpods p]

/-- What an answered request at MA leaves as it stands, when it has changed `base` at its pods alone. -/
theorem answered_frame {base : State} (hs : s.settled) (hbase : after = { base with pods := after.pods }) :
    let t := (holdEvent s after).answered q rest r
    t = { base with
      pods := t.pods, talkers := talkersLeft s t
      ports := ((s.noticed (holdNotices s t)).answered q rest r).ports } := by
  intro t
  have hports : t = { holdEvent s after with ports := ((s.noticed (holdNotices s t)).answered q rest r).ports } := by
    rw [holdNotices_answered]
    exact State.answered_eq_of_ports _ _ q rest r (h.ports_eq hs)
  rw [h.holdEvent_frame hs hbase] at hports
  rw [State.pods_answered, talkersLeft_answered]
  exact hports

end HoldChange

/-! ### RELEASE_ALL (R24, R28) -/

theorem exec_releaseAll (q : PortId) (s : State) :
    exec (.releaseAll q) s = .next (takeTurn .releaseAll requestReleaseAll q s) := rfl

theorem row_releaseAll (operands : List Byte) : (goodFrame 0x12 operands).row = .releaseAll := rfl

theorem isSetLength_of_le {n : Nat} (hmin : 1 ≤ n) (hmax : n ≤ 4) : isSetLength n = true := by
  simp [isSetLength, hmin, hmax]

theorem State.changePodHolds_headTaken (s : State) (q : PortId) (rest : List RequestFrame) (applied : PodSet)
    (f : HoldSet → HoldSet) : (s.headTaken q rest).changePodHolds applied f = (s.changePodHolds applied f).headTaken q rest :=
  State.mapPods_modPort ..

/-- A change of the hold sets of a set of pods changes no other field of a pod record. -/
theorem State.pod_changePodHolds (s : State) (applied : PodSet) (f : HoldSet → HoldSet) (p : PodId) :
    (s.changePodHolds applied f).pod p =
      { s.pod p with holds := if PodSet.has applied p then f (s.pod p).holds else (s.pod p).holds } := by
  simp only [State.changePodHolds, State.pod_mapPods]
  split <;> rfl

theorem State.changePodHolds_eq (s : State) (applied : PodSet) (f : HoldSet → HoldSet) :
    s.changePodHolds applied f = { s with pods := (s.changePodHolds applied f).pods } := by
  simp only [State.changePodHolds, State.mapPods]

theorem HoldChange.changePodHolds (s : State) (applied : PodSet) (f : HoldSet → HoldSet) :
    HoldChange s (s.changePodHolds applied f) :=
  ⟨fun p => by rw [State.pod_changePodHolds], by simp [State.changePodHolds], by simp [State.changePodHolds]⟩

/-- What RELEASE_ALL does once its checks are passed (R24, R28). -/
theorem requestReleaseAll_ok {s : State} {q : PortId} {set : List Byte} (hj : JoinedAs s q .room)
    (hmin : 1 ≤ set.length) (hmax : set.length ≤ 4) :
    requestReleaseAll q (goodFrame 0x12 set) s =
      answerApplied (podSetWord (s.listedNamed (number set)) == number set)
        (bigEndian 4 (podSetWord (s.listedNamed (number set))))
        (takeHoldChange s (s.changePodHolds (s.listedNamed (number set)) HoldSet.releaseAll)) := by
  simp [requestReleaseAll, goodFrame, ensure, isSetLength_of_le hmin hmax, hj.roleIn]

/-- The turn of RELEASE_ALL: the applied pods keep LINK alone, and the applied set is answered (R24, R28). -/
theorem exec_releaseAll_atTurn {s : State} {q : PortId} {set : List Byte} {rest : List RequestFrame}
    (hj : JoinedAs s q .room) (hmin : 1 ≤ set.length) (hmax : set.length ≤ 4) (h : AtTurn s q (goodFrame 0x12 set) rest) :
    let applied := s.listedNamed (number set)
    exec (.releaseAll q) s = .next ((holdEvent s (s.changePodHolds applied HoldSet.releaseAll)).answered q rest
      ⟨if podSetWord applied = number set then .done else .clamped, 0x12, bigEndian 4 (podSetWord applied)⟩) := by
  intro applied
  have ho := requestReleaseAll_ok (hj.headTaken rest) hmin hmax
  rw [State.listedNamed_headTaken, State.changePodHolds_headTaken] at ho
  rw [exec_releaseAll, h.takeTurn_holdEvent hj (row_releaseAll set) ho, doneIf_beq]
  rfl

/-! ### PRIVACY_ON and PRIVACY_OFF (R24, R29, R30) -/

/-- The state with another privacy record and nothing else changed. -/
def State.withPrivacy (s : State) (x : Option Setter) : State := { s with privacy := x }

section
variable (s : State) (x : Option Setter) (p : PodId)

@[simp] theorem State.pod_withPrivacy : (s.withPrivacy x).pod p = s.pod p := rfl
@[simp] theorem State.privacy_withPrivacy : (s.withPrivacy x).privacy = x := rfl

theorem State.withPrivacy_headTaken (q : PortId) (rest : List RequestFrame) :
    { s.headTaken q rest with privacy := x } = (s.withPrivacy x).headTaken q rest := by
  simp only [State.withPrivacy, State.headTaken, State.modPort, State.mapPorts, State.port]

theorem HoldChange.withPrivacy : HoldChange s (s.withPrivacy x) := ⟨fun _ => rfl, rfl, rfl⟩

end

/-- The row of a privacy request, on or off. -/
def privacyRow (on : Bool) : RequestRow := if on then .privacyOn else .privacyOff

/-- What a privacy request does, on or off. -/
def privacyRequest (on : Bool) : Request := if on then requestPrivacyOn else requestPrivacyOff

theorem exec_privacy (on : Bool) (q : PortId) (s : State) :
    exec (if on then .privacyOn q else .privacyOff q) s = .next (takeTurn (privacyRow on) (privacyRequest on) q s) := by
  cases on <;> rfl

theorem row_privacy (on : Bool) : (goodFrame (if on then 0x13 else 0x14) []).row = privacyRow on := by
  cases on <;> rfl

/-- The privacy record that a request from a role leaves (R29, R30). -/
def privacyFrom (role : Role) (on : Bool) : Option Setter := if on then some (setterOf (some role)) else none

/-- What a privacy request does once its checks are passed (R24, R29, R30). -/
theorem privacyRequest_ok {s : State} {q : PortId} {role : Role} (on : Bool) (hj : JoinedAs s q role) (hrole : role ≠ .view) :
    privacyRequest on q (goodFrame (if on then 0x13 else 0x14) []) s =
      answerDone (privacyBytes (privacyFrom role on)) (takeHoldChange s { s with privacy := privacyFrom role on }) := by
  have hpermitted : s.roleIn q [.call, .room] = true := by
    rw [hj.roleIn]
    cases role with
    | call | room => rfl
    | view => exact absurd rfl hrole
  cases on with
  | false => simp [privacyRequest, requestPrivacyOff, goodFrame, ensure, hpermitted, privacyFrom]
  | true => simp [privacyRequest, requestPrivacyOn, goodFrame, ensure, hpermitted, privacyFrom, hj.role]

/-- The turn of PRIVACY_ON or PRIVACY_OFF: the privacy record alone is changed, and answered (R29, R30). -/
theorem exec_privacy_atTurn {s : State} {q : PortId} {role : Role} {on : Bool} {rest : List RequestFrame}
    (hj : JoinedAs s q role) (hrole : role ≠ .view) (h : AtTurn s q (goodFrame (if on then 0x13 else 0x14) []) rest) :
    exec (if on then .privacyOn q else .privacyOff q) s =
      .next ((holdEvent s (s.withPrivacy (privacyFrom role on))).answered q rest
        ⟨.done, if on then 0x13 else 0x14, privacyBytes (privacyFrom role on)⟩) := by
  have ho := privacyRequest_ok on (hj.headTaken rest) hrole
  rw [State.withPrivacy_headTaken] at ho
  rw [exec_privacy, h.takeTurn_holdEvent hj (row_privacy on) ho]
  rfl

theorem privacyFrom_eq {role : Role} (hrole : role ≠ .view) (on : Bool) :
    privacyFrom role on = if on then some (if role = .call then .call else .room) else none := by
  cases role with
  | call | room => rfl
  | view => exact absurd rfl hrole

/-- The answer of a privacy request: the two bytes of the record that it leaves (Table 12-8). -/
theorem privacyBytes_privacyFrom {role : Role} (hrole : role ≠ .view) (on : Bool) :
    privacyBytes (privacyFrom role on) = if on then [if role = .call then 0x01 else 0x11, 0x00] else [0x00, 0x00] := by
  cases role with
  | call | room => cases on <;> rfl
  | view => exact absurd rfl hrole

/-! ### Presses (R32 to R36) -/

/-- An event at MA that changes neither a hold set nor the privacy record changes nothing (R21, R22). -/
theorem takeHoldChange_self (s : State) : takeHoldChange s s = s := by
  have hdiffer : holdsDiffer s s = false := by simp [holdsDiffer]
  have hnever : ∀ p, (s.unmuted p && s.muted p) = false ∧ (s.muted p && s.unmuted p) = false := fun p => by
    rw [State.unmuted_eq]
    cases s.muted p <;> simp
  have hpods : s.mapPods (fun _ pod => pod) = s := (State.mapPods_eq_self_iff _ _).2 fun _ => rfl
  simp [takeHoldChange, hdiffer, hnever, hpods, State.raiseIf]

/-- A change of one pod record is told by what it makes of that record. -/
theorem State.modPod_congr {s : State} {p : PodId} {f g : Pod → Pod} (h : f (s.pod p) = g (s.pod p)) :
    s.modPod p f = s.modPod p g := by
  refine State.ext_records (fun k => ?_) (fun m => by simp) (fun q => by simp) (by simp only [State.modPod, State.mapPods])
  by_cases hk : k = p <;> simp [hk, h]

theorem State.modPod_eq_self {s : State} {p : PodId} {f : Pod → Pod} (h : f (s.pod p) = s.pod p) : s.modPod p f = s :=
  (State.mapPods_eq_self_iff _ _).2 fun k => by by_cases hk : k = p <;> simp [hk, h]

theorem State.modPod_modPod (s : State) (p : PodId) (f g : Pod → Pod) :
    (s.modPod p f).modPod p g = s.modPod p fun pod => g (f pod) := by
  refine State.ext_records (fun k => ?_) (fun m => by simp) (fun q => by simp) (by simp only [State.modPod, State.mapPods])
  by_cases hk : k = p <;> simp [hk]

/-- A pod with its next short press delivered (R142). -/
def Pod.shortTaken (pod : Pod) : Pod := { pod with shortDue := pod.shortDue - 1 }

/-- A pod with its next long press delivered (R142). -/
def Pod.longTaken (pod : Pod) : Pod := { pod with longDue := pod.longDue - 1 }

/-- A pod's hold set once its short press has been judged: under privacy the press is ignored (R33, R36, Table 2-3). -/
def State.holdsAfterShort (s : State) (p : PodId) : HoldSet :=
  if s.privacy.isSome then (s.pod p).holds else (s.pod p).holds.afterShortPress s.tuning.podOverride

/-- The state with one short press of a pod delivered and judged (R33, R142). -/
def State.afterShort (s : State) (p : PodId) : State :=
  s.modPod p fun pod => { pod.shortTaken with holds := s.holdsAfterShort p }

/-- The state with one long press of a pod delivered and judged (R35, R142). -/
def State.afterLong (s : State) (p : PodId) : State :=
  (s.modPod p Pod.longTaken).withPrivacy (privacyAfterLongPress p (s.pod p).chair s.privacy)

section
variable (s : State) (p k : PodId)

theorem State.pod_afterShort : (s.afterShort p).pod k = { s.pod k with
    holds := if k = p then s.holdsAfterShort p else (s.pod k).holds
    shortDue := (s.pod k).shortDue - (if k = p then 1 else 0) } := by
  by_cases hk : k = p <;> simp [State.afterShort, Pod.shortTaken, hk]

theorem State.pod_afterLong : (s.afterLong p).pod k =
    { s.pod k with longDue := (s.pod k).longDue - (if k = p then 1 else 0) } := by
  by_cases hk : k = p <;> simp [State.afterLong, Pod.longTaken, hk]

theorem State.privacy_afterLong : (s.afterLong p).privacy = privacyAfterLongPress p (s.pod p).chair s.privacy := rfl

theorem State.afterShort_eq : s.afterShort p = { s with pods := (s.afterShort p).pods } := by
  simp only [State.afterShort, State.modPod, State.mapPods]

theorem State.afterLong_eq : s.afterLong p =
    { s.withPrivacy (privacyAfterLongPress p (s.pod p).chair s.privacy) with pods := (s.afterLong p).pods } := by
  simp only [State.afterLong, State.withPrivacy, State.modPod, State.mapPods]

theorem HoldChange.afterShort : HoldChange s (s.afterShort p) :=
  ⟨fun k => by rw [State.pod_afterShort], by simp [State.afterShort], by simp [State.afterShort]⟩

theorem HoldChange.afterLong : HoldChange s (s.afterLong p) :=
  ⟨fun k => by rw [State.pod_afterLong], by simp [State.afterLong, State.withPrivacy],
    by simp [State.afterLong, State.withPrivacy]⟩

/-- A change of a pod record that leaves its listing and its hold set takes no part in what MA reads. -/
theorem takeHoldChange_modPod (f : Pod → Pod) (listed : ∀ pod, (f pod).listed = pod.listed)
    (holds : ∀ pod, (f pod).holds = pod.holds) (after : State) :
    takeHoldChange (s.modPod p f) after = takeHoldChange s after := by
  refine takeHoldChange_congr (fun k => ?_) (fun k => ?_) (by simp) (by simp) after
  · by_cases hk : k = p <;> simp [hk, listed]
  · by_cases hk : k = p <;> simp [hk, holds]

/-- MA judges a short press by changing its pod's hold set, which an ignored press leaves as it stands (R33, R36). -/
theorem judgeShortPress_eq : judgeShortPress p s =
    takeHoldChange s (s.modPod p fun pod => { pod with holds := s.holdsAfterShort p }) := by
  unfold judgeShortPress State.holdsAfterShort
  split
  · rw [State.modPod_eq_self rfl, takeHoldChange_self]
  · exact congrArg _ (State.modPod_congr rfl)

/-- The delivery of a short press is an event at MA. -/
theorem deliverShort_eq : deliverShort p s = holdEvent s (s.afterShort p) := by
  have hjudged : (s.modPod p Pod.shortTaken).holdsAfterShort p = s.holdsAfterShort p := by
    simp [State.holdsAfterShort, Pod.shortTaken]
  have hdeliver : deliverShort p s = (judgeShortPress p (s.modPod p Pod.shortTaken)).settle := rfl
  rw [hdeliver, judgeShortPress_eq, hjudged, State.modPod_modPod,
    takeHoldChange_modPod s p Pod.shortTaken (fun _ => rfl) fun _ => rfl]
  rfl

/-- The delivery of a long press is an event at MA. -/
theorem deliverLong_eq : deliverLong p s = holdEvent s (s.afterLong p) := by
  have hjudged : judgeLongPress p (s.modPod p Pod.longTaken) =
      takeHoldChange (s.modPod p Pod.longTaken) (s.afterLong p) := by
    simp [judgeLongPress, State.afterLong, State.withPrivacy, Pod.longTaken]
  have hdeliver : deliverLong p s = (judgeLongPress p (s.modPod p Pod.longTaken)).settle := rfl
  rw [hdeliver, hjudged, takeHoldChange_modPod s p Pod.longTaken (fun _ => rfl) fun _ => rfl]
  rfl

theorem exec_shortPress (address : Nat) : exec (.shortPress address) s = execShortPress address s := rfl

theorem exec_longPress (address : Nat) : exec (.longPress address) s = execLongPress address s := rfl

/-- A short press that PL holds is delivered (R32, R33). -/
theorem exec_shortPress_of_due (h : 0 < (s.pod p).shortDue) :
    exec (.shortPress (addressOf p)) s = .next (holdEvent s (s.afterShort p)) := by
  simp only [exec_shortPress, execShortPress, podOfAddress_addressOf, if_pos h, deliverShort_eq]

/-- A long press that PL holds is delivered once the pod's short presses have been (R32, R35, R142). -/
theorem exec_longPress_of_due (hshort : (s.pod p).shortDue = 0) (h : 0 < (s.pod p).longDue) :
    exec (.longPress (addressOf p)) s = .next (holdEvent s (s.afterLong p)) := by
  simp only [exec_longPress, execLongPress, podOfAddress_addressOf, if_pos (And.intro hshort h), deliverLong_eq]

end

/-- Table 2-4: a chair pod's press begins privacy or ends a chair's, and no other press does anything. -/
theorem privacyAfterLongPress_eq (p : PodId) (chair : Bool) (x : Option Setter) :
    privacyAfterLongPress p chair x =
      if chair then (match x with
        | none => some (.chair p)
        | some (.chair _) => none
        | some x => some x)
      else x := by
  cases chair <;> rcases x with _ | (_ | _ | _ | _) <;> rfl

end Sys2Proof.Machine

open Sys2Proof Sys2Proof.Machine

/-- Settles O19: the applied set as the listed pods named, and the hold event of the hold sets that RELEASE_ALL clears. -/
theorem releaseAllClearsPodHolds : Obligations.ReleaseAllClearsPodHolds := by
  unfold Obligations.ReleaseAllClearsPodHolds
  intro s q set rest hj hmin hmax hturn
  have hchange := HoldChange.changePodHolds s (s.listedNamed (number set)) HoldSet.releaseAll
  refine ⟨podSetWord (s.listedNamed (number set)), s.keeps_listedNamed _, _, exec_releaseAll_atTurn hj hmin hmax hturn,
    fun p => ?_, hchange.heldPods_answered q rest _ fun p => ?_, ?_⟩
  · rw [State.pod_answered, holds_holdEvent, State.pod_changePodHolds, podSetWord_testBit_addressOf]
    rfl
  · rw [State.pod_changePodHolds]
  · exact hchange.answered_frame q rest _ hturn.settled (s.changePodHolds_eq _ _)

/-- Settles O20: the hold event of the privacy record that the request leaves. -/
theorem privacyRequests : Obligations.PrivacyRequests := by
  unfold Obligations.PrivacyRequests
  intro s q role on rest hj hrole hturn
  have hchange := HoldChange.withPrivacy s (privacyFrom role on)
  rw [← privacyFrom_eq hrole, ← privacyBytes_privacyFrom hrole]
  refine ⟨_, exec_privacy_atTurn hj hrole hturn, by simp, fun p => by simp,
    hchange.heldPods_answered q rest _ fun _ => rfl, ?_⟩
  rw [State.privacy_answered, privacy_holdEvent]
  exact hchange.answered_frame (base := s.withPrivacy (privacyFrom role on)) q rest _ hturn.settled rfl

/-- Settles O21: the hold event of the pod's hold set after the press. -/
theorem shortPressJudged : Obligations.ShortPressJudged := by
  unfold Obligations.ShortPressJudged
  intro s p hs hdue
  have hchange := HoldChange.afterShort s p
  refine ⟨_, exec_shortPress_of_due s p hdue, fun k => ?_, fun k => ?_, hchange.holdEvent_frame hs (s.afterShort_eq p)⟩
  · rw [holds_holdEvent, State.pod_afterShort]
    rfl
  · rw [holds_holdEvent, hchange.pod_eq, State.pod_afterShort]

/-- Settles O22: the hold event of the privacy record after the press. -/
theorem longPressJudged : Obligations.LongPressJudged := by
  unfold Obligations.LongPressJudged
  intro s p hs hshort hdue
  have hchange := HoldChange.afterLong s p
  refine ⟨_, exec_longPress_of_due s p hshort hdue, ?_, fun k => ?_, ?_⟩
  · rw [privacy_holdEvent, State.privacy_afterLong]
    exact privacyAfterLongPress_eq p _ _
  · rw [hchange.pod_eq, State.pod_afterLong]
  · rw [privacy_holdEvent, State.privacy_afterLong]
    exact hchange.holdEvent_frame hs (s.afterLong_eq p)

end

section
/-! The talker list in the frame work: the entries part (R69 to R72), the rank order (R73), the entry displaced (R75, R76) and admission (R74 to R77). -/

namespace Sys2Proof.Machine

/-! ### The entries part (R69 to R72) -/

section

variable (t : Tuning) (q : PodId → Bool)

/-- What stays of one list in the entries part, before an expiring entry can become LAST. -/
def entriesKept (l : List Talker) : List Talker := l.filterMap fun e => entryStays t (q e.pod) e

/-- The entry that LAST_ON 1 leaves of a list whose entries all expire (R70). -/
def lastLeft (l : List Talker) : List Talker := (l.getLast?.map fun e : Talker => { e with state := .last }).toList

/-- An entry that is not alone passes as Table 4-2 says. -/
theorem passEntry_not_alone (b : Bool) (e : Talker) : passEntry t b false e = entryStays t b e := by
  cases b with
  | true => rfl
  | false => rcases e with ⟨p, _ | _ | _, c, n⟩ <;> simp [passEntry, entryStays, expireEntry]

/-- The only entry becomes LAST under LAST_ON 1 where it would expire (R70). -/
theorem passEntry_alone (b : Bool) (e : Talker) :
    passEntry t b true e =
      if entryStays t b e = none ∧ t.lastOn = 1 then some { e with state := .last } else entryStays t b e := by
  cases b with
  | true => simp [passEntry, entryStays]
  | false =>
    rcases e with ⟨p, _ | r | _, c, n⟩
    case opened => by_cases h : t.gateHold = 0 <;> simp [passEntry, entryStays, expireEntry, h]
    case hold => by_cases h : r ≤ 1 <;> simp [passEntry, entryStays, expireEntry, h]
    case last => simp [passEntry, entryStays]

theorem entriesKept_cons_of_none {e : Talker} (rest : List Talker) (h : entryStays t (q e.pod) e = none) :
    entriesKept t q (e :: rest) = entriesKept t q rest :=
  List.filterMap_cons_none h

theorem entriesKept_cons_of_some {e x : Talker} (rest : List Talker) (h : entryStays t (q e.pod) e = some x) :
    entriesKept t q (e :: rest) = x :: entriesKept t q rest :=
  List.filterMap_cons_some h

/-- Behind an entry that has stayed no entry is alone. -/
theorem passEntries_of_kept (l : List Talker) {kept : List Talker} (h : kept ≠ []) :
    passEntries t q kept l = kept ++ entriesKept t q l := by
  induction l generalizing kept with
  | nil => simp [passEntries, entriesKept]
  | cons e rest ih =>
    have hkept : kept.isEmpty = false := by simpa using h
    rw [passEntries, hkept, Bool.false_and, passEntry_not_alone, ih (by simp [h])]
    cases hstays : entryStays t (q e.pod) e with
    | none => simp [entriesKept_cons_of_none t q rest hstays]
    | some x => simp [entriesKept_cons_of_some t q rest hstays]

/-- The entries part leaves the entries that stay, or, when none stays and LAST_ON is 1, the newest as LAST (R69 to R72). -/
theorem passEntries_eq (l : List Talker) :
    passEntries t q [] l = if entriesKept t q l = [] ∧ t.lastOn = 1 then lastLeft l else entriesKept t q l := by
  induction l with
  | nil => simp [passEntries, entriesKept, lastLeft]
  | cons e rest ih =>
    cases rest with
    | nil =>
      simp only [passEntries, List.isEmpty_nil, Bool.and_self, passEntry_alone]
      cases hstays : entryStays t (q e.pod) e with
      | none =>
        rw [entriesKept_cons_of_none t q [] hstays]
        by_cases hlast : t.lastOn = 1 <;> simp [entriesKept, lastLeft, hlast]
      | some x =>
        rw [entriesKept_cons_of_some t q [] hstays]
        simp [entriesKept]
    | cons e' rest =>
      rw [passEntries, List.isEmpty_cons, Bool.and_false, passEntry_not_alone]
      cases hstays : entryStays t (q e.pod) e with
      | none =>
        have hlast : lastLeft (e :: e' :: rest) = lastLeft (e' :: rest) := by
          simp [lastLeft, List.getLast?_cons_cons]
        rw [entriesKept_cons_of_none t q _ hstays, hlast]
        exact ih
      | some x =>
        rw [entriesKept_cons_of_some t q _ hstays, if_neg (by simp)]
        exact passEntries_of_kept t q _ (by simp)

/-- An entry that stays is the same pod's. -/
theorem entryStays_pod {b : Bool} {e x : Talker} (h : entryStays t b e = some x) : x.pod = e.pod := by
  have hsame : ∀ state, some { e with state := state } = some x → x.pod = e.pod :=
    fun _ hx => Option.some.inj hx ▸ rfl
  unfold entryStays at h
  split at h
  next => exact hsame _ h
  next =>
    split at h
    next =>
      split at h
      · cases h
      · exact hsame _ h
    next =>
      split at h
      · cases h
      · exact hsame _ h
    next => exact Option.some.inj h ▸ rfl

theorem entriesKept_pods_sublist (l : List Talker) :
    ((entriesKept t q l).map Talker.pod).Sublist (l.map Talker.pod) := by
  induction l with
  | nil => exact List.Sublist.refl _
  | cons e rest ih =>
    cases hstays : entryStays t (q e.pod) e with
    | none =>
      rw [entriesKept_cons_of_none t q rest hstays]
      exact ih.cons _
    | some x =>
      rw [entriesKept_cons_of_some t q rest hstays, List.map_cons, entryStays_pod t hstays]
      exact ih.cons_cons _

theorem lastLeft_pods_sublist (l : List Talker) : ((lastLeft l).map Talker.pod).Sublist (l.map Talker.pod) := by
  rw [lastLeft]
  cases hlast : l.getLast? with
  | none => simp
  | some e => simpa using ⟨e, List.mem_of_getLast? hlast, rfl⟩

/-- The entries part reorders no entry and adds none (R67). -/
theorem passEntries_pods_sublist (l : List Talker) :
    ((passEntries t q [] l).map Talker.pod).Sublist (l.map Talker.pod) := by
  rw [passEntries_eq]
  split
  · exact lastLeft_pods_sublist l
  · exact entriesKept_pods_sublist t q l

end

theorem State.entriesAfter_eq (s : State) (w : WorkFrame) :
    s.entriesAfter w = passEntries s.tuning (fun p => (s.trackedIn w p).qualifies) [] s.talkers :=
  (passEntries_eq s.tuning (fun p => (s.trackedIn w p).qualifies) s.talkers).symm

/-! ### The rank order (R73) -/

theorem Candidate.before_iff (a b : Candidate) : a.before b = true ↔
    b.cls < a.cls ∨ (a.cls = b.cls ∧ (b.level < a.level ∨ (a.level = b.level ∧ a.pod < b.pod))) := by
  simp [Candidate.before]

theorem Candidate.before_trans {a b c : Candidate} (hab : a.before b = true) (hbc : b.before c = true) :
    a.before c = true := by
  grind [Candidate.before_iff]

/-- Of two candidates of different pods one ranks before the other. -/
theorem Candidate.before_of_not_before {a b : Candidate} (hpod : a.pod ≠ b.pod) (h : ¬ a.before b = true) :
    b.before a = true := by
  grind [Candidate.before_iff]

theorem Candidate.cls_le_of_before {a b : Candidate} (h : a.before b = true) : b.cls ≤ a.cls := by
  rw [Candidate.before_iff] at h
  omega

theorem insertCandidate_perm (c : Candidate) (ds : List Candidate) : (insertCandidate c ds).Perm (c :: ds) := by
  induction ds with
  | nil => exact List.Perm.refl _
  | cons d ds ih =>
    rw [insertCandidate]
    split
    · exact List.Perm.refl _
    · exact (ih.cons d).trans (List.Perm.swap c d ds)

theorem rankCandidates_perm (cs : List Candidate) : (rankCandidates cs).Perm cs := by
  induction cs with
  | nil => exact List.Perm.refl _
  | cons c cs ih => exact (insertCandidate_perm c _).trans (ih.cons c)

/-- A candidate of another pod takes its place in a ranked list. -/
theorem insertCandidate_ranked {c : Candidate} {ds : List Candidate} (hnew : ∀ d ∈ ds, c.pod ≠ d.pod)
    (h : ds.Pairwise (Candidate.before · ·)) : (insertCandidate c ds).Pairwise (Candidate.before · ·) := by
  induction ds with
  | nil => exact List.pairwise_singleton _ _
  | cons d ds ih =>
    obtain ⟨hd, hds⟩ := List.pairwise_cons.1 h
    rw [insertCandidate]
    split
    next hbefore =>
      refine List.pairwise_cons.2 ⟨fun x hx => ?_, h⟩
      rcases List.mem_cons.1 hx with rfl | hx
      · exact hbefore
      · exact Candidate.before_trans hbefore (hd x hx)
    next hbefore =>
      refine List.pairwise_cons.2 ⟨fun x hx => ?_, ih (fun d' hd' => hnew d' (List.mem_cons_of_mem _ hd')) hds⟩
      rcases List.mem_cons.1 ((insertCandidate_perm c ds).subset hx) with rfl | hx
      · exact Candidate.before_of_not_before (hnew d List.mem_cons_self) hbefore
      · exact hd x hx

theorem rankCandidates_ranked {cs : List Candidate} (h : (cs.map Candidate.pod).Nodup) :
    (rankCandidates cs).Pairwise (Candidate.before · ·) := by
  induction cs with
  | nil => exact List.Pairwise.nil
  | cons c cs ih =>
    obtain ⟨hc, hcs⟩ := List.nodup_cons.1 h
    refine insertCandidate_ranked (fun d hd heq => hc ?_) (ih hcs)
    exact List.mem_map.2 ⟨d, (rankCandidates_perm cs).subset hd, heq.symm⟩

section

variable (s : State) (w : WorkFrame)

/-- A pod as it competes for a place in a frame. -/
def State.competitor (p : PodId) : Candidate := ⟨p, (s.pod p).cls, (s.trackedIn w p).level⟩

/-- Whether a pod competes for a place in a frame (R73). -/
def State.competes (p : PodId) : Bool :=
  (s.trackedIn w p).qualifies && s.unmuted p && !((s.entriesAfter w).any fun e => e.pod == p)

/-- The candidates of a frame, by rising pod address (R73). -/
def State.competitors : List Candidate := (allPods.filter (s.competes w)).map (s.competitor w)

theorem State.competes_iff (p : PodId) : s.competes w p = true ↔ s.candidate w p := by
  simp [State.competes, State.candidate, and_assoc]

theorem State.competitor_before_iff (a b : PodId) :
    (s.competitor w a).before (s.competitor w b) = true ↔ s.ranksBefore w a b :=
  Candidate.before_iff _ _

/-- The candidates in rank order are a list of pods that holds each candidate once. -/
theorem State.exists_ranking : ∃ ps : List PodId,
    rankCandidates (s.competitors w) = ps.map (s.competitor w) ∧ ps.Pairwise (s.ranksBefore w) ∧ ps.Nodup ∧
    ∀ p, p ∈ ps ↔ s.candidate w p := by
  have hpods : (s.competitors w).map Candidate.pod = allPods.filter (s.competes w) := by
    simp [State.competitors, Function.comp_def, State.competitor]
  have hperm : ((rankCandidates (s.competitors w)).map Candidate.pod).Perm (allPods.filter (s.competes w)) :=
    hpods ▸ (rankCandidates_perm _).map Candidate.pod
  have hnodup : (allPods.filter (s.competes w)).Nodup := (List.nodup_finRange 24).filter _
  have hself : ∀ c ∈ rankCandidates (s.competitors w), s.competitor w c.pod = c := by
    intro c hc
    obtain ⟨p, -, rfl⟩ := List.mem_map.1 ((rankCandidates_perm _).subset hc)
    rfl
  refine ⟨(rankCandidates (s.competitors w)).map Candidate.pod, ?_, ?_, hperm.nodup_iff.2 hnodup, fun p => ?_⟩
  · rw [List.map_map]
    exact (List.map_congr_left hself).trans (List.map_id _) |>.symm
  · refine List.pairwise_map.2 ((rankCandidates_ranked (hpods ▸ hnodup)).imp_of_mem fun ha hb hbefore => ?_)
    rwa [← State.competitor_before_iff, hself _ ha, hself _ hb]
  · rw [hperm.mem_iff, ← State.competes_iff]
    simp [allPods]

end

/-! ### The entry displaced (R75, R76) -/

/-- The order of two entries is that of any list without repetitions that holds theirs. -/
theorem idxOf_lt_idxOf_of_sublist {l m : List Talker} (h : l.Sublist m) (hm : m.Nodup) {a b : Talker} (ha : a ∈ l)
    (hb : b ∈ l) : l.idxOf a < l.idxOf b ↔ m.idxOf a < m.idxOf b := by
  induction h with
  | slnil => exact Iff.rfl
  | cons x h ih =>
    obtain ⟨hx, hm⟩ := List.nodup_cons.1 hm
    have hne : ∀ y ∈ _, x ≠ y := fun y hy heq => hx (heq ▸ h.subset hy)
    rw [List.idxOf_cons_ne _ (hne a ha), List.idxOf_cons_ne _ (hne b hb), ih hm ha hb]
    exact Nat.succ_lt_succ_iff.symm
  | cons_cons x h ih =>
    obtain ⟨hx, hm⟩ := List.nodup_cons.1 hm
    by_cases hax : x = a <;> by_cases hbx : x = b
    · simp [← hax, ← hbx]
    · simp [← hax, List.idxOf_cons_ne _ hbx]
    · simp [← hbx]
    · have ha' : a ∈ _ := (List.mem_cons.1 ha).resolve_left (Ne.symm hax)
      have hb' : b ∈ _ := (List.mem_cons.1 hb).resolve_left (Ne.symm hbx)
      simpa [List.idxOf_cons_ne _ hax, List.idxOf_cons_ne _ hbx] using ih hm ha' hb'

theorem lowestOldest_eq_none_iff (l : List Talker) : lowestOldest l = none ↔ l = [] := by
  cases l with
  | nil => simp [lowestOldest]
  | cons e es =>
    rw [lowestOldest]
    split
    · simp
    · split <;> simp

theorem lowestNewest_eq_none_iff (l : List Talker) : lowestNewest l = none ↔ l = [] := by
  cases l with
  | nil => simp [lowestNewest]
  | cons e es =>
    rw [lowestNewest]
    split
    · simp
    · split <;> simp

/-- Every other entry has a higher class than the oldest of the lowest class, or the same class and a later place. -/
theorem lowestOldest_spec {l : List Talker} {v : Talker} (h : lowestOldest l = some v) :
    v ∈ l ∧ ∀ e ∈ l, e ≠ v → v.cls < e.cls ∨ (v.cls = e.cls ∧ l.idxOf v < l.idxOf e) := by
  induction l generalizing v with
  | nil => cases h
  | cons e es ih =>
    rw [lowestOldest] at h
    cases hes : lowestOldest es with
    | none =>
      obtain rfl : es = [] := (lowestOldest_eq_none_iff es).1 hes
      obtain rfl : e = v := by simpa [hes] using h
      simp
    | some m =>
      obtain ⟨hm, hlow⟩ := ih hes
      by_cases hcls : m.cls < e.cls
      · obtain rfl : m = v := by simpa [hes, hcls] using h
        have hne : e ≠ m := fun heq => absurd hcls (by simp [heq])
        refine ⟨List.mem_cons_of_mem _ hm, fun x hx hxm => ?_⟩
        by_cases hxe : e = x
        · exact .inl (hxe ▸ hcls)
        · rw [List.idxOf_cons_ne _ hne, List.idxOf_cons_ne _ hxe, Nat.succ_lt_succ_iff]
          exact hlow x (List.mem_of_ne_of_mem (Ne.symm hxe) hx) hxm
      · obtain rfl : e = v := by simpa [hes, hcls] using h
        refine ⟨List.mem_cons_self, fun x hx hxe => ?_⟩
        have hle : m.cls ≤ x.cls := by
          by_cases hxm : x = m
          · rw [hxm]
          · have := hlow x (List.mem_of_ne_of_mem hxe hx) hxm
            omega
        rw [List.idxOf_cons_self, List.idxOf_cons_ne _ (Ne.symm hxe)]
        omega

/-- Every other entry has a higher class than the newest of the lowest class, or the same class and no later place. -/
theorem lowestNewest_spec {l : List Talker} {v : Talker} (h : lowestNewest l = some v) (hl : l.Nodup) :
    v ∈ l ∧ ∀ e ∈ l, e ≠ v → v.cls < e.cls ∨ (v.cls = e.cls ∧ ¬ l.idxOf v < l.idxOf e) := by
  induction l generalizing v with
  | nil => cases h
  | cons e es ih =>
    obtain ⟨he, hl⟩ := List.nodup_cons.1 hl
    rw [lowestNewest] at h
    cases hes : lowestNewest es with
    | none =>
      obtain rfl : es = [] := (lowestNewest_eq_none_iff es).1 hes
      obtain rfl : e = v := by simpa [hes] using h
      simp
    | some m =>
      obtain ⟨hm, hlow⟩ := ih hes hl
      by_cases hcls : m.cls ≤ e.cls
      · obtain rfl : m = v := by simpa [hes, hcls] using h
        have hne : e ≠ m := fun heq => he (heq ▸ hm)
        refine ⟨List.mem_cons_of_mem _ hm, fun x hx hxm => ?_⟩
        by_cases hxe : e = x
        · rw [← hxe, List.idxOf_cons_self]
          omega
        · rw [List.idxOf_cons_ne _ hne, List.idxOf_cons_ne _ hxe, Nat.succ_lt_succ_iff]
          exact hlow x (List.mem_of_ne_of_mem (Ne.symm hxe) hx) hxm
      · obtain rfl : e = v := by simpa [hes, hcls] using h
        refine ⟨List.mem_cons_self, fun x hx hxe => .inl ?_⟩
        by_cases hxm : x = m
        · rw [hxm]
          omega
        · have := hlow x (List.mem_of_ne_of_mem hxe hx) hxm
          omega

theorem Talker.isOpen_iff (e : Talker) : e.isOpen = true ↔ e.state = .opened := by simp [Talker.isOpen]

/-- An entry is OPEN, LAST or in HOLD. -/
theorem Talker.isHold_iff (e : Talker) : e.isHold = true ↔ e.isOpen = false ∧ e.isLast = false := by
  simp [Talker.isHold]

theorem Talker.isLast_of_isOpen {e : Talker} (h : e.isOpen = true) : e.isLast = false := by
  rw [Talker.isOpen_iff] at h
  simp [Talker.isLast, h]

/-- A list makes way for no candidate of a class exactly when its entries are all OPEN and of no lower class (R75, R76). -/
theorem displaced_eq_none_iff (l : List Talker) (cls : Nat) :
    displaced l cls = none ↔ ∀ e ∈ l, e.state = .opened ∧ cls ≤ e.cls := by
  have hcases : displaced l cls = none ↔
      l.find? Talker.isLast = none ∧ l.filter Talker.isHold = [] ∧ (l.filter fun e => decide (e.cls < cls)) = [] := by
    rw [← lowestOldest_eq_none_iff, ← lowestNewest_eq_none_iff, displaced]
    cases l.find? Talker.isLast <;> cases lowestOldest (l.filter Talker.isHold) <;> simp
  rw [hcases]
  simp only [List.find?_eq_none, List.filter_eq_nil_iff, Talker.isHold_iff, ← Talker.isOpen_iff, decide_eq_true_eq]
  grind [Talker.isLast_of_isOpen]

/-- The entry displaced goes before every other of the list, and as an OPEN entry only for a class above its own (R75, R76). -/
theorem displaced_spec {l : List Talker} {cls : Nat} {v : Talker} (h : displaced l cls = some v) (hl : l.Nodup) :
    v ∈ l ∧ (v.isOpen = true → v.cls < cls) ∧ ∀ kept ∈ l, kept ≠ v → displacedBefore l v kept := by
  rw [displaced] at h
  split at h
  next hlast =>
    obtain rfl := Option.some.inj h
    have hv := List.find?_some hlast
    refine ⟨List.mem_of_find?_eq_some hlast, fun hopen => ?_, fun kept _ _ => ?_⟩
    · simp [Talker.isLast_of_isOpen hopen] at hv
    · simp [displacedBefore, hv]
  next hlast =>
    have hnolast := List.find?_eq_none.1 hlast
    split at h
    next hhold =>
      obtain rfl := Option.some.inj h
      obtain ⟨hin, hlow⟩ := lowestOldest_spec hhold
      obtain ⟨hv, hvhold⟩ := List.mem_filter.1 hin
      obtain ⟨hvopen, hvlast⟩ := (Talker.isHold_iff _).1 hvhold
      refine ⟨hv, fun hopen => by simp [hvopen] at hopen, fun kept hkept hne => ?_⟩
      have hklast : kept.isLast = false := by simpa using hnolast kept hkept
      simp only [displacedBefore, hvopen, hvlast, hklast, Bool.false_eq_true, if_false, true_and]
      by_cases hkopen : kept.isOpen = true
      · exact .inl hkopen
      · have hkin : kept ∈ l.filter Talker.isHold :=
          List.mem_filter.2 ⟨hkept, (Talker.isHold_iff kept).2 ⟨by simpa using hkopen, hklast⟩⟩
        rw [← idxOf_lt_idxOf_of_sublist List.filter_sublist hl hin hkin]
        exact .inr (hlow kept hkin hne)
    next hhold =>
      have hallopen : ∀ e ∈ l, e.isOpen = true := fun e he => by
        have hnohold := List.filter_eq_nil_iff.1 ((lowestOldest_eq_none_iff _).1 hhold) e he
        rw [Talker.isHold_iff] at hnohold
        simpa [hnolast e he] using hnohold
      obtain ⟨hin, hlow⟩ := lowestNewest_spec h (hl.filter _)
      obtain ⟨hv, hvcls⟩ := List.mem_filter.1 hin
      have hvcls : v.cls < cls := by simpa using hvcls
      refine ⟨hv, fun _ => hvcls, fun kept hkept hne => ?_⟩
      simp only [displacedBefore, Talker.isLast_of_isOpen (hallopen v hv), hallopen v hv, hallopen kept hkept,
        Bool.false_eq_true, if_false, if_true, true_and]
      by_cases hkcls : kept.cls < cls
      · have hkin : kept ∈ l.filter fun e => decide (e.cls < cls) := List.mem_filter.2 ⟨hkept, by simpa using hkcls⟩
        rw [← idxOf_lt_idxOf_of_sublist List.filter_sublist hl hin hkin]
        exact hlow kept hkin hne
      · exact .inl (by omega)

/-- One entry goes before another in every list without repetitions that holds their order. -/
theorem displacedBefore_iff_of_sublist {l m : List Talker} (h : l.Sublist m) (hm : m.Nodup) {gone kept : Talker}
    (hgone : gone ∈ l) (hkept : kept ∈ l) : displacedBefore l gone kept ↔ displacedBefore m gone kept := by
  simp only [displacedBefore, idxOf_lt_idxOf_of_sublist h hm hgone hkept]

/-- After an OPEN entry only OPEN entries of no lower class follow in the order of displacement. -/
theorem displacedBefore.open_le {l : List Talker} {gone kept : Talker} (h : displacedBefore l gone kept)
    (hopen : gone.isOpen = true) : kept.isOpen = true ∧ gone.cls ≤ kept.cls := by
  simp only [displacedBefore, Talker.isLast_of_isOpen hopen, hopen, Bool.false_eq_true, if_false, if_true] at h
  obtain ⟨hkept, hcls⟩ := h
  exact ⟨hkept, by omega⟩

/-! ### Admission (R74 to R77) -/

/-- Where admission stands once it has met the candidates `admitted ++ left`: `stay` is left of the entries of `passed`. -/
structure Admission (limit : Nat) (passed : List Talker) (admitted left : List Candidate) (stay : List Talker) :
    Prop where
  fits : stay.length + admitted.length ≤ limit
  sublist : stay.Sublist passed
  /-- Nothing makes way while there is room. -/
  length : stay.length = min passed.length (limit - admitted.length)
  /-- A candidate is left out of a full list that has no entry to displace for it (R77). -/
  leftOut : ∀ c ∈ left, stay.length + admitted.length = limit ∧ ∀ e ∈ stay, e.state = .opened ∧ c.cls ≤ e.cls
  /-- The entries that made way are the first in the order of displacement (R75, R76). -/
  madeWay : ∀ gone ∈ passed, gone ∉ stay → (∀ kept ∈ stay, displacedBefore passed gone kept) ∧
    (gone.isOpen = true → ∀ a ∈ admitted, gone.cls < a.cls)

section

variable {limit : Nat} {passed stay : List Talker} {admitted left : List Candidate} {c : Candidate}

theorem Admission.start (h : passed.length ≤ limit) : Admission limit passed [] [] passed where
  fits := by simpa using h
  sublist := List.Sublist.refl _
  length := by simpa using h
  leftOut := by simp
  madeWay := fun _ hgone hstay => absurd hgone hstay

/-- A candidate that meets a list with room joins it (R74). -/
theorem Admission.seat_room (h : Admission limit passed admitted [] stay)
    (hroom : stay.length + admitted.length < limit) : Admission limit passed (admitted ++ [c]) [] stay where
  fits := by simpa [← Nat.add_assoc] using hroom
  sublist := h.sublist
  length := by
    have := h.length
    simp only [List.length_append, List.length_singleton]
    omega
  leftOut := by simp
  madeWay := by
    have hall : stay = passed := h.sublist.eq_of_length (by have := h.length; omega)
    exact fun _ hgone hstay => absurd (hall ▸ hgone) hstay

/-- A candidate that meets a full list with no entry to displace is left out (R77). -/
theorem Admission.leave_out (h : Admission limit passed admitted left stay)
    (hfull : stay.length + admitted.length = limit) (hno : ∀ e ∈ stay, e.state = .opened ∧ c.cls ≤ e.cls) :
    Admission limit passed admitted (left ++ [c]) stay :=
  { h with
    leftOut := fun d hd => by
      rcases List.mem_append.1 hd with hd | hd
      · exact h.leftOut d hd
      · rw [List.mem_singleton.1 hd]
        exact ⟨hfull, hno⟩ }

/-- A candidate that meets a full list takes the place of the entry displaced (R75, R76). -/
theorem Admission.displace (h : Admission limit passed admitted [] stay) (hpassed : passed.Nodup)
    (hfull : stay.length + admitted.length = limit) (hcls : ∀ a ∈ admitted, c.cls ≤ a.cls) {v : Talker} (hv : v ∈ stay)
    (hopen : v.isOpen = true → v.cls < c.cls) (hbefore : ∀ kept ∈ stay, kept ≠ v → displacedBefore passed v kept) :
    Admission limit passed (admitted ++ [c]) [] (stay.erase v) where
  fits := by
    have := List.length_erase_of_mem hv
    have := List.length_pos_of_mem hv
    simp only [List.length_append, List.length_singleton]
    omega
  sublist := (List.erase_sublist).trans h.sublist
  length := by
    have := List.length_erase_of_mem hv
    have := List.length_pos_of_mem hv
    have := h.length
    simp only [List.length_append, List.length_singleton]
    omega
  leftOut := by simp
  madeWay := fun gone hgone hnot => by
    have hstay : stay.Nodup := h.sublist.nodup hpassed
    by_cases hin : gone ∈ stay
    · obtain rfl : gone = v := by
        by_contra hne
        exact hnot ((List.mem_erase_of_ne hne).2 hin)
      refine ⟨fun kept hkept => ?_, fun hgopen a ha => ?_⟩
      · obtain ⟨hne, hkept⟩ := hstay.mem_erase_iff.1 hkept
        exact hbefore kept hkept hne
      · rcases List.mem_append.1 ha with ha | ha
        · exact (hopen hgopen).trans_le (hcls a ha)
        · rw [List.mem_singleton.1 ha]
          exact hopen hgopen
    · obtain ⟨hkept, hadmitted⟩ := h.madeWay gone hgone hin
      refine ⟨fun kept hk => hkept kept (List.mem_of_mem_erase hk), fun hgopen a ha => ?_⟩
      rcases List.mem_append.1 ha with ha | ha
      · exact hadmitted hgopen a ha
      · obtain ⟨hvopen, hle⟩ := (hkept v hv).open_le hgopen
        rw [List.mem_singleton.1 ha]
        exact hle.trans_lt (hopen hvopen)

end

/-- In a list with one entry for each pod, the entry of a pod leaves alone. -/
theorem withoutPod_eq_erase {l : List Talker} {v : Talker} (h : (l.map Talker.pod).Nodup) (hv : v ∈ l) :
    withoutPod l v.pod = l.erase v := by
  rw [(List.Nodup.of_map _ h).erase_eq_filter, withoutPod]
  refine List.filter_congr fun e he => ?_
  rw [Bool.eq_iff_iff]
  simp only [bne_iff_ne, ne_eq, not_iff_not]
  exact ⟨fun hpod => List.inj_on_of_nodup_map h he hv hpod, fun heq => heq ▸ rfl⟩

/-- The entries that candidates leave at the tail (R74). -/
def entriesOf (count : BitVec 32) (cs : List Candidate) : List Talker := cs.map (Candidate.entry · count)

@[simp] theorem length_entriesOf (count : BitVec 32) (cs : List Candidate) : (entriesOf count cs).length = cs.length :=
  List.length_map _

@[simp] theorem map_pod_entriesOf (count : BitVec 32) (cs : List Candidate) :
    (entriesOf count cs).map Talker.pod = cs.map Candidate.pod := by
  simp [entriesOf, Function.comp_def, Candidate.entry]

@[simp] theorem entriesOf_append_singleton (count : BitVec 32) (cs : List Candidate) (c : Candidate) :
    entriesOf count (cs ++ [c]) = entriesOf count cs ++ [c.entry count] := by
  simp [entriesOf]

theorem exists_of_mem_entriesOf {count : BitVec 32} {cs : List Candidate} {e : Talker} (h : e ∈ entriesOf count cs) :
    ∃ a ∈ cs, e.state = .opened ∧ e.cls = a.cls := by
  obtain ⟨a, ha, rfl⟩ := List.mem_map.1 h
  exact ⟨a, ha, rfl, rfl⟩

section

variable {limit : Nat} {passed stay : List Talker} {admitted left : List Candidate} {c : Candidate}

/-- A candidate left out shows that a later one has no entry to displace. -/
theorem Admission.no_displaced (h : Admission limit passed admitted left stay) (count : BitVec 32)
    (hcls : ∀ a ∈ admitted ++ left, c.cls ≤ a.cls) (hleft : left ≠ []) :
    displaced (stay ++ entriesOf count admitted) c.cls = none := by
  obtain ⟨d, hd⟩ := List.exists_mem_of_ne_nil left hleft
  obtain ⟨-, hstay⟩ := h.leftOut d hd
  refine (displaced_eq_none_iff _ _).2 fun e he => ?_
  rcases List.mem_append.1 he with he | he
  · obtain ⟨hopen, hle⟩ := hstay e he
    exact ⟨hopen, (hcls d (List.mem_append_right _ hd)).trans hle⟩
  · obtain ⟨a, ha, hopen, heq⟩ := exists_of_mem_entriesOf he
    exact ⟨hopen, heq ▸ hcls a (List.mem_append_left _ ha)⟩

/-- One more candidate, which ranks after those that admission has met (R74 to R77). -/
theorem Admission.seat (h : Admission limit passed admitted left stay) (count : BitVec 32)
    (hpods : (passed.map Talker.pod ++ (admitted ++ left).map Candidate.pod).Nodup)
    (hcls : ∀ a ∈ admitted ++ left, c.cls ≤ a.cls) :
    ∃ admitted' left' stay', (admitted ++ left) ++ [c] = admitted' ++ left' ∧
      Admission limit passed admitted' left' stay' ∧
      seatCandidate limit count (stay ++ entriesOf count admitted) c = stay' ++ entriesOf count admitted' := by
  have hlength : (stay ++ entriesOf count admitted).length = stay.length + admitted.length := by simp
  by_cases hroom : stay.length + admitted.length < limit
  · obtain rfl : left = [] := List.eq_nil_iff_forall_not_mem.2 fun d hd => by
      obtain ⟨hfull, -⟩ := h.leftOut d hd
      omega
    refine ⟨admitted ++ [c], [], stay, by simp, h.seat_room hroom, ?_⟩
    rw [seatCandidate, if_pos (hlength ▸ hroom), entriesOf_append_singleton, List.append_assoc]
  have hfull : stay.length + admitted.length = limit := h.fits.antisymm (by omega)
  rw [seatCandidate, if_neg (hlength ▸ hroom)]
  cases hdisplaced : displaced (stay ++ entriesOf count admitted) c.cls with
  | none =>
    refine ⟨admitted, left ++ [c], stay, by simp, h.leave_out hfull fun e he => ?_, rfl⟩
    exact (displaced_eq_none_iff _ _).1 hdisplaced e (List.mem_append_left _ he)
  | some v =>
    obtain rfl : left = [] := by
      by_contra hleft
      simp [h.no_displaced count hcls hleft] at hdisplaced
    rw [List.append_nil] at hpods hcls ⊢
    have hlist : ((stay ++ entriesOf count admitted).map Talker.pod).Nodup := by
      rw [List.map_append, map_pod_entriesOf]
      exact hpods.sublist ((h.sublist.map _).append_right _)
    have hpassed : passed.Nodup := .of_map Talker.pod (List.Nodup.of_append_left hpods)
    obtain ⟨hv, hopen, hbefore⟩ := displaced_spec hdisplaced (.of_map _ hlist)
    have hvstay : v ∈ stay := (List.mem_append.1 hv).resolve_right fun hadm => by
      obtain ⟨a, ha, hstate, heq⟩ := exists_of_mem_entriesOf hadm
      have hlt := hopen ((Talker.isOpen_iff v).2 hstate)
      have hle := hcls a ha
      omega
    refine ⟨admitted ++ [c], [], stay.erase v, by simp,
      h.displace hpassed hfull hcls hvstay hopen fun kept hkept hne => ?_, ?_⟩
    · rw [← displacedBefore_iff_of_sublist h.sublist hpassed hvstay hkept,
        displacedBefore_iff_of_sublist (List.sublist_append_left _ _) (.of_map _ hlist) hvstay hkept]
      exact hbefore kept (List.mem_append_left _ hkept) hne
    · simp only [withoutPod_eq_erase hlist hv, List.erase_append_left _ hvstay, entriesOf_append_singleton,
        List.append_assoc]

end

/-- Admission admits the first of the ranked candidates and leaves the rest out (R73 to R77). -/
theorem exists_admission_of_ranked {limit : Nat} (count : BitVec 32) {passed : List Talker} (hlen : passed.length ≤ limit)
    (cs : List Candidate) (hpods : (passed.map Talker.pod ++ cs.map Candidate.pod).Nodup)
    (hcls : cs.Pairwise fun a b => b.cls ≤ a.cls) :
    ∃ admitted left stay, cs = admitted ++ left ∧ Admission limit passed admitted left stay ∧
      cs.foldl (seatCandidate limit count) passed = stay ++ entriesOf count admitted := by
  induction cs using List.reverseRecOn with
  | nil => exact ⟨[], [], passed, rfl, Admission.start hlen, by simp [entriesOf]⟩
  | append_singleton cs c ih =>
    obtain ⟨hcs, -, hlow⟩ := List.pairwise_append.1 hcls
    have hpods' : (passed.map Talker.pod ++ cs.map Candidate.pod).Nodup :=
      hpods.sublist (((List.sublist_append_left cs [c]).map _).append_left _)
    obtain ⟨admitted, left, stay, rfl, hadm, hlist⟩ := ih hpods' hcs
    rw [List.foldl_append, hlist]
    exact hadm.seat count hpods' fun a ha => hlow a ha c List.mem_cons_self

/-! ### The frame work -/

section

variable (s : State) (w : WorkFrame)

/-- The frame work passes the entries and then admits the candidates in rank order (R61, R69 to R77). -/
theorem State.talkers_frameWorkOn : (frameWorkOn w s).talkers =
    (rankCandidates (s.competitors w)).foldl (seatCandidate s.tuning.openLimit (s.frameCount + 1))
      (s.entriesAfter w) := by
  have htracked : ∀ p : PodId, (Vector.ofFn fun p => trackPod s.tuning (s.pod p) (w.podSamples p))[p] = s.trackedIn w p :=
    fun p => by simp [State.trackedIn]
  simp only [frameWorkOn, State.talkers_raiseIf, State.talkers_mapPods, htracked, ← State.entriesAfter_eq]
  rfl

/-- A handed frame is taken, and the talker list is what its frame work leaves (R60, R61). -/
theorem exec_frameWork_of_handed (h : s.gateInput = some w) :
    exec .frameWork s = .next ({ frameWorkOn w s with gateInput := none, mixInput := some w } : State).settle := by
  have hexec : exec .frameWork s = .next (runFrameWork s) := rfl
  rw [hexec, runFrameWork, h]

/-- The entries part leaves at most one entry for each pod, and a candidate has none. -/
theorem State.entriesAfter_candidates_nodup (h : s.talkersSound) {ps : List PodId} (hps : ps.Nodup)
    (hcandidate : ∀ p ∈ ps, s.candidate w p) : ((s.entriesAfter w).map Talker.pod ++ ps).Nodup := by
  obtain ⟨hpods, -⟩ := h
  have hpassed : ((s.entriesAfter w).map Talker.pod).Nodup := by
    rw [State.entriesAfter_eq]
    exact hpods.sublist (passEntries_pods_sublist _ _ _)
  refine hpassed.append hps fun p hp hin => ?_
  obtain ⟨e, he, rfl⟩ := List.mem_map.1 hp
  obtain ⟨-, -, hnone⟩ := hcandidate _ hin
  exact hnone e he rfl

/-- The entries part leaves no more entries than OPEN_LIMIT. -/
theorem State.length_entriesAfter_le (h : s.talkersSound) : (s.entriesAfter w).length ≤ s.tuning.openLimit := by
  obtain ⟨-, hlimit, -⟩ := h
  have hle := (passEntries_pods_sublist s.tuning (fun p => (s.trackedIn w p).qualifies) s.talkers).length_le
  rw [List.length_map, List.length_map, ← State.entriesAfter_eq] at hle
  exact hle.trans hlimit

/-- The candidates of a frame in rank order are those admitted and then those left out (R73 to R77). -/
theorem State.exists_admission (h : s.talkersSound) : ∃ (admitted left : List PodId) (stay : List Talker),
    (admitted ++ left).Pairwise (s.ranksBefore w) ∧ (admitted ++ left).Nodup ∧
    (∀ p, p ∈ admitted ++ left ↔ s.candidate w p) ∧
    Admission s.tuning.openLimit (s.entriesAfter w) (admitted.map (s.competitor w)) (left.map (s.competitor w)) stay ∧
    (frameWorkOn w s).talkers = stay ++ entriesOf (s.frameCount + 1) (admitted.map (s.competitor w)) := by
  obtain ⟨ps, hranking, hranked, hnodup, hmem⟩ := s.exists_ranking w
  have hpods : (ps.map (s.competitor w)).map Candidate.pod = ps := by
    simp [Function.comp_def, State.competitor]
  have hcls : (ps.map (s.competitor w)).Pairwise fun a b => b.cls ≤ a.cls :=
    List.pairwise_map.2 (hranked.imp fun hab => Candidate.cls_le_of_before ((s.competitor_before_iff w _ _).2 hab))
  obtain ⟨as, ls, stay, hsplit, hadmission, hlist⟩ :=
    exists_admission_of_ranked (s.frameCount + 1) (s.length_entriesAfter_le w h) (ps.map (s.competitor w))
      (by rw [hpods]; exact s.entriesAfter_candidates_nodup w h hnodup fun p => (hmem p).1) hcls
  obtain ⟨admitted, left, rfl, rfl, rfl⟩ := List.map_eq_append_iff.1 hsplit
  exact ⟨admitted, left, stay, hranked, hnodup, hmem, hadmission, by rw [State.talkers_frameWorkOn, hranking, hlist]⟩

end

end Sys2Proof.Machine

open Sys2Proof Sys2Proof.Machine

/-- Settles O46: admission from the entries that the entries part leaves, over the candidates in rank order. -/
theorem frameWorkSettlesTheTalkerList : Obligations.FrameWorkSettlesTheTalkerList := by
  unfold Obligations.FrameWorkSettlesTheTalkerList
  intro s w _ htalkers hw
  obtain ⟨admitted, left, stay, hranked, hnodup, hmem, hadmission, hlist⟩ := s.exists_admission w htalkers
  obtain ⟨hadmitted, -, hacross⟩ := List.pairwise_append.1 hranked
  have hentries : entriesOf (s.frameCount + 1) (admitted.map (s.competitor w)) =
      admitted.map fun p => ⟨p, .opened, (s.pod p).cls, s.frameCount + 1⟩ := by
    simp [entriesOf, Function.comp_def, State.competitor, Candidate.entry]
  have hlength : (stay ++ entriesOf (s.frameCount + 1) (admitted.map (s.competitor w))).length =
      stay.length + (admitted.map (s.competitor w)).length := by simp
  refine ⟨_, exec_frameWork_of_handed s w hw, admitted, stay, ?_⟩
  simp only [State.talkers_settle, hlist]
  refine ⟨hlength ▸ hadmission.fits, by rw [hentries], hadmission.sublist, by simpa using hadmission.length,
    hnodup.of_append_left, hadmitted, fun p hp => (hmem p).1 (List.mem_append_left _ hp), fun p hp hout => ?_,
    fun gone hgone hnot => ?_⟩
  · have hleft : p ∈ left := (List.mem_append.1 ((hmem p).2 hp)).resolve_left hout
    obtain ⟨hfull, hstay⟩ := hadmission.leftOut _ (List.mem_map_of_mem hleft)
    refine ⟨fun a ha => hacross a ha p hleft, hlength.trans hfull, fun e he => ?_⟩
    rcases List.mem_append.1 he with he | he
    · exact hstay e he
    · obtain ⟨c, hc, hopen, hcls⟩ := exists_of_mem_entriesOf he
      obtain ⟨a, ha, rfl⟩ := List.mem_map.1 hc
      have hbefore := (s.competitor_before_iff w a p).2 (hacross a ha p hleft)
      exact ⟨hopen, hcls ▸ Candidate.cls_le_of_before hbefore⟩
  · obtain ⟨hbefore, hopen⟩ := hadmission.madeWay gone hgone hnot
    exact ⟨hbefore, fun h a ha => hopen h _ (List.mem_map_of_mem ha)⟩

end

section
/-! The mix frame event (R86, R87): the gains that stages 1 to 3 leave as they were, the sums and saturated shifts of stage 4 in exact form (R90, R91, R98 to R103), and the frame handed to AL (R104). -/

namespace Sys2Proof.Machine

/-! ### Saturation and sums in exact form (R90, R91, R98 to R100) -/

/-- To saturate is to clamp between the lowest and the highest sample (R91). -/
theorem saturate_eq (v : Int) : saturate v = max minSample (min maxSample v) := by
  simp only [saturate, minSample, maxSample]
  omega

/-- The saturated nearest shift that ends every output formula (R90, R91). -/
theorem saturate_shiftNearest (v : Int) (n : Nat) : saturate (shiftNearest v n) =
    max (-8388608) (min 8388607 (v.sign * ((v.natAbs + 2 ^ (n - 1)) / 2 ^ n : Nat))) := saturate_eq _

theorem roomSum_ofFn (f : PodId → Int) : roomSum (Vector.ofFn f) = ∑ p, f p := by
  simp [roomSum, allPods, Fin.sum_univ_def]

theorem legBridge_ofFn (f : LegId → Int) : legBridge (Vector.ofFn f) = ∑ m, f m := by
  simp [legBridge, allLegs, Fin.sum_univ_def]

/-- A sum over the elements that pass a test takes the others as 0. -/
theorem sum_map_filter_not {α : Type} (b : α → Bool) (f : α → Int) (xs : List α) :
    ((xs.filter fun x => !b x).map f).sum = (xs.map fun x => if b x then 0 else f x).sum := by
  induction xs with
  | nil => rfl
  | cons x xs ih => cases h : b x <;> simp [h, ih]

theorem reinforcementSum_ofFn (f : PodId → Int) (excl : PodSet) :
    reinforcementSum (Vector.ofFn f) excl = ∑ i, if PodSet.has excl i then 0 else f i := by
  simp [reinforcementSum, sum_map_filter_not, allPods, Fin.sum_univ_def]

/-! ### The outputs of one sample (R101 to R103) -/

section
variable (s : State) (l : LaneInput) (k : Nat)

/-- The send to a leg takes the bridge without the leg's own term (R101). -/
theorem State.sends_outputSample (m : LegId) : (s.outputSample l k).sends[m] =
    sendSample ((s.leg m).sendEnv.at k) (∑ p, s.podTerm l k p) (s.nomGain.at k) (∑ m, s.legTerm l k m) (s.legTerm l k m) := by
  simp [State.outputSample, roomSum_ofFn, legBridge_ofFn]

theorem State.record_outputSample : (s.outputSample l k).record =
    recordSample (∑ p, s.podTerm l k p) (s.nomGain.at k) (∑ m, s.legTerm l k m) := by
  simp [State.outputSample, roomSum_ofFn, legBridge_ofFn]

/-- The feed to a listed pod takes the channels outside its exclusion set, and the others are fed 0 (R99, R103). -/
theorem State.feeds_outputSample (p : PodId) : (s.outputSample l k).feeds[p] =
    if (s.pod p).listed then
      feedSample ((s.pod p).volumeGain.at k) (∑ m, s.legTerm l k m) (s.reinforceGain.at k)
        (∑ i, if PodSet.has (s.pod p).excl i then 0 else s.podTerm l k i)
    else 0 := by
  simp [State.outputSample, legBridge_ofFn, reinforcementSum_ofFn]

/-- The outputs rest on the gains, listings and exclusion sets, which the end of an event leaves. -/
@[simp] theorem State.outputSample_settle : s.settle.outputSample l k = s.outputSample l k := by
  simp [State.outputSample, State.podTerm, State.legTerm]

end

/-! ### What stages 1 to 3 leave (R87) -/

section
variable (s : State)

@[simp] theorem State.listed_stepPod (p : PodId) (pod : Pod) : (s.stepPod p pod).listed = pod.listed := by
  unfold State.stepPod; dsimp only; split <;> rfl

@[simp] theorem State.excl_stepPod (p : PodId) (pod : Pod) : (s.stepPod p pod).excl = pod.excl := by
  unfold State.stepPod; dsimp only; split <;> rfl

@[simp] theorem State.state_stepLeg (leg : Leg) : (s.stepLeg leg).state = leg.state := rfl

@[simp] theorem State.pod_stepGains (p : PodId) : s.stepGains.pod p = s.stepPod p (s.pod p) := by
  simp [State.stepGains]

@[simp] theorem State.leg_stepGains (m : LegId) : s.stepGains.leg m = s.stepLeg (s.leg m) := by
  simp [State.stepGains]

/-! ### The frame handed to AL (R104) -/

/-- The state whose worked frame has become an output frame that waits at AL (R104). -/
def State.handOff (s : State) (out : List OutputSample) : State := { s with waiting := some out, mixInput := none }

variable (out : List OutputSample)

@[simp] theorem State.pod_handOff (p : PodId) : (s.handOff out).pod p = s.pod p := rfl
@[simp] theorem State.leg_handOff (m : LegId) : (s.handOff out).leg m = s.leg m := rfl
@[simp] theorem State.waiting_handOff : (s.handOff out).waiting = some out := rfl
@[simp] theorem State.outputSample_handOff (l : LaneInput) (k : Nat) :
    (s.handOff out).outputSample l k = s.outputSample l k := rfl

/-! ### The mix frame event (R86, R87) -/

variable (w : WorkFrame)

/-- The state after the mix frame event on a frame that the lanes have not broken off (R87). -/
def State.mixed : State := (s.stepGains.handOff (s.stepGains.outputFrame w)).settle

/-- A worked frame that is to be delivered is mixed and handed to AL (R86, R104). -/
theorem exec_mixFrameEvent_of_delivered {s : State} {w : WorkFrame} (hw : s.mixInput = some w)
    (hdeliver : w.deliver = true) : exec .mixFrameEvent s = .next (s.mixed w) := by
  have hexec : exec .mixFrameEvent s = .next (runMix s) := rfl
  rw [hexec, runMix, hw]
  simp only [mixOn, hdeliver, if_true, State.mixed, State.handOff]

@[simp] theorem State.listed_mixed (p : PodId) : ((s.mixed w).pod p).listed = (s.pod p).listed := by
  simp [State.mixed]

@[simp] theorem State.excl_mixed (p : PodId) : ((s.mixed w).pod p).excl = (s.pod p).excl := by
  simp [State.mixed]

@[simp] theorem State.state_mixed (m : LegId) : ((s.mixed w).leg m).state = (s.leg m).state := by
  simp [State.mixed]

/-- The frame handed to AL holds the outputs of each of its samples, from the gains that the event leaves (R87). -/
theorem State.waiting_mixed :
    (s.mixed w).waiting = some (w.samples.mapIdx fun k l => (s.mixed w).outputSample l k) := by
  simp [State.mixed, State.outputFrame]

/-- The term of a channel in the sums of a mixed frame (R98). -/
theorem State.podTerm_mixed (l : LaneInput) (k : Nat) (p : PodId) : (s.mixed w).podTerm l k p =
    if (s.pod p).listed then podSample l p * ((s.mixed w).pod p).contrib.at k else 0 := by
  rw [State.podTerm, State.listed_mixed]

/-- The term of a leg in the bridge of a mixed frame (R100). -/
theorem State.legTerm_mixed (l : LaneInput) (k : Nat) (m : LegId) : (s.mixed w).legTerm l k m =
    if (s.leg m).state = .closed then 0 else legSample l m * ((s.mixed w).leg m).receiveFactor.at k := by
  rw [State.legTerm, State.state_mixed]

end

end Sys2Proof.Machine

open Sys2Proof Sys2Proof.Machine

/-- Settles O48: each output sample of the frame handed to AL, with its sums taken over the listed channels and the legs that are not CLOSED. -/
theorem mixFrameEventFormsTheOutputs : Obligations.MixFrameEventFormsTheOutputs := by
  unfold Obligations.MixFrameEventFormsTheOutputs
  intro s w _ hw hdeliver
  refine ⟨_, exec_mixFrameEvent_of_delivered hw hdeliver, _, s.waiting_mixed w, by simp, fun k l o hl ho => ?_⟩
  obtain rfl : (s.mixed w).outputSample l k = o := by simpa [hl] using ho
  have hpod := funext (s.podTerm_mixed w l k)
  have hleg := funext (s.legTerm_mixed w l k)
  refine ⟨fun m => ?_, ?_, fun p => ?_⟩
  · rw [State.sends_outputSample, hpod, hleg]
    exact saturate_shiftNearest _ _
  · rw [State.record_outputSample, hpod, hleg]
    exact saturate_shiftNearest _ _
  · rw [State.feeds_outputSample, State.listed_mixed, State.excl_mixed, hpod, hleg]
    exact congrArg (fun feed => if (s.pod p).listed then feed else 0) (saturate_shiftNearest _ _)

end

section
/-! LEG_STATE (R119 to R124): the turn of a request that changes nothing, an event at MA that raises one notice of its own, the leg table and the flush effects of Table 7-3, and the request itself. -/

namespace Sys2Proof.Machine

/-! ### The turn of a request that changes nothing (R151, R163) -/

/-- The turn of an executed request whose effects are none: the frame leaves and its reply joins. -/
theorem AtTurn.takeTurn_unchanged {s : State} {q : PortId} {f : RequestFrame} {rest : List RequestFrame}
    {row : RequestRow} {request : Request} {role : Role} {payload : List Byte} (h : AtTurn s q f rest)
    (hj : JoinedAs s q role) (hrow : f.row = row)
    (ho : request q f (s.headTaken q rest) = answerDone payload (s.headTaken q rest)) :
    takeTurn row request q s = s.answered q rest ⟨.done, f.code, payload⟩ := by
  rw [h.takeTurn_ok hj hrow ho, State.settle_answered, h.settled]

/-- The turn of a refused request: the frame leaves and the refusal joins (R163). -/
theorem AtTurn.takeTurn_refused {s : State} {q : PortId} {f : RequestFrame} {rest : List RequestFrame}
    {row : RequestRow} {request : Request} {role : Role} {x : Reason} (h : AtTurn s q f rest)
    (hj : JoinedAs s q role) (hrow : f.row = row) (ho : request q f (s.headTaken q rest) = refuse x) :
    takeTurn row request q s = s.answered q rest ⟨.refused x, f.code, []⟩ := by
  have houtcome : outcomeOf row request q f (s.headTaken q rest) = .error x := by
    simp [outcomeOf, (hj.headTaken rest).joined, ensure, ho, refuse]
  rw [takeTurn_head row request h.requests h.room hrow, ← State.headTaken, houtcome, State.answer,
    State.settle_answered, h.settled]

/-! ### An event at MA that raises a notice of its own (R121, R158) -/

@[simp] theorem Port.joined_noticed (port : Port) (cs : CategorySet) : (port.noticed cs).joined = port.joined := by
  unfold Port.noticed
  split <;> rfl

/-- Notices of some categories and then of others are notices of both. -/
theorem Port.noticed_noticed (port : Port) (a b : CategorySet) :
    (port.noticed a).noticed b = port.noticed (b ||| a) := by
  cases hj : port.joined with
  | false => simp [Port.noticed, hj]
  | true =>
    have hboth : port.pendingSet ||| (port.mask &&& a) ||| (port.mask &&& b) =
        port.pendingSet ||| (port.mask &&& (b ||| a)) := by
      rw [BitVec.or_assoc, ← BitVec.and_or_distrib_left, BitVec.or_comm a]
    have hjoined : (port.noticed a).joined = true := by rw [Port.joined_noticed, hj]
    rw [Port.noticed, if_pos hjoined]
    simp only [Port.noticed, hj, if_true, hboth]

theorem State.noticed_noticed (s : State) (a b : CategorySet) : (s.noticed a).noticed b = s.noticed (b ||| a) := by
  simp only [State.noticed, State.mapPorts_mapPorts, Port.noticed_noticed]

/-- A port that is notified and then refreshed is one that is refreshed and then noticed (R158, R160). -/
theorem Port.refreshed_notify (port : Port) (c : Category) : (port.notify c).refreshed = port.refreshed.noticed c.bit := by
  have hjoined : port.refreshed.joined = port.joined := rfl
  unfold Port.notify Port.noticed
  rw [hjoined]
  split <;> rfl

/-- A notice raised before the end of the event is one raised after it, with the attention lines that follow it. -/
theorem State.settle_raise (s : State) (c : Category) : (s.raise c).settle = s.settle.noticed c.bit := by
  simp only [State.settle, State.raise, State.noticed, State.mapPods_mapPorts, State.mapPorts_mapPorts,
    State.gateOf_mapPorts, State.patternOf_mapPorts]
  exact State.mapPorts_congr fun q => Port.refreshed_notify _ c

/-- An answered port has its attention line asserted, whatever notices it has. -/
theorem Port.noticed_answered (port : Port) (cs : CategorySet) (rest : List RequestFrame) (r : Reply) :
    (port.answered rest r).noticed cs = (port.noticed cs).answered rest r := by
  have hjoined : (port.answered rest r).joined = port.joined := rfl
  unfold Port.noticed
  rw [hjoined]
  split
  · simp [Port.answered]
  · rfl

theorem State.noticed_answered (s : State) (cs : CategorySet) (q : PortId) (rest : List RequestFrame) (r : Reply) :
    (s.answered q rest r).noticed cs = (s.noticed cs).answered q rest r := by
  simp only [State.noticed, State.answered, State.modPort, State.mapPorts_mapPorts]
  refine State.mapPorts_congr fun k => ?_
  by_cases hk : k = q <;> simp [hk, Port.noticed_answered]

section
variable (s t : State) (cs : CategorySet) (p : PodId) (m : LegId)

@[simp] theorem State.pod_noticed : (s.noticed cs).pod p = s.pod p := by simp [State.noticed]
@[simp] theorem State.pods_noticed : (s.noticed cs).pods = s.pods := by simp [State.noticed]
@[simp] theorem State.leg_noticed : (s.noticed cs).leg m = s.leg m := by simp [State.noticed]
@[simp] theorem State.legs_noticed : (s.noticed cs).legs = s.legs := by simp [State.noticed]
@[simp] theorem State.privacy_noticed : (s.noticed cs).privacy = s.privacy := by simp [State.noticed]
@[simp] theorem State.talkers_noticed : (s.noticed cs).talkers = s.talkers := by simp [State.noticed]
@[simp] theorem State.muted_noticed : (s.noticed cs).muted p = s.muted p := State.muted_mapPorts ..
@[simp] theorem State.unmuted_noticed : (s.noticed cs).unmuted p = s.unmuted p := State.unmuted_mapPorts ..
@[simp] theorem State.gateOf_noticed : (s.noticed cs).gateOf p = s.gateOf p := State.gateOf_mapPorts ..
@[simp] theorem State.patternOf_noticed : (s.noticed cs).patternOf p = s.patternOf p := State.patternOf_mapPorts ..

theorem State.legs_answered (q : PortId) (rest : List RequestFrame) (r : Reply) : (s.answered q rest r).legs = s.legs := by
  simp [State.answered]
theorem legs_holdEvent : (holdEvent s t).legs = t.legs := by simp [holdEvent]

@[simp] theorem talkersLeft_noticed : talkersLeft s (t.noticed cs) = talkersLeft s t := by simp [talkersLeft]
@[simp] theorem holdNotices_noticed : holdNotices s (t.noticed cs) = holdNotices s t := by
  simp [holdNotices, holdsDiffer, talkersMoved]

/-- What MA and the end of the event leave of the pods does not rest on the ports. -/
@[simp] theorem heldPods_noticed : heldPods s (t.noticed cs) ↔ heldPods s t := by
  simp [heldPods, flagLeft, Pod.following]

theorem State.ports_noticed_congr {t u : State} (h : t.ports = u.ports) : (t.noticed cs).ports = (u.noticed cs).ports := by
  simp only [State.noticed, State.mapPorts, State.port, h]

theorem State.ports_answered_congr {t u : State} (q : PortId) (rest : List RequestFrame) (r : Reply)
    (h : t.ports = u.ports) : (t.answered q rest r).ports = (u.answered q rest r).ports := by
  simp only [State.answered, State.modPort, State.mapPorts, State.port, h]

end

/-- The turn of an executed request whose event at MA raises one more category (R121). -/
theorem AtTurn.takeTurn_holdEvent_raise {s after : State} {q : PortId} {f : RequestFrame} {rest : List RequestFrame}
    {row : RequestRow} {request : Request} {role : Role} {a : Answer} {c : Category} (h : AtTurn s q f rest)
    (hj : JoinedAs s q role) (hrow : f.row = row)
    (ho : request q f (s.headTaken q rest) =
      .ok (a, (takeHoldChange (s.headTaken q rest) (after.headTaken q rest)).raise c)) :
    takeTurn row request q s = ((holdEvent s after).answered q rest ⟨a.status, f.code, a.payload⟩).noticed c.bit := by
  have hraise : ((takeHoldChange s after).headTaken q rest).raise c = ((takeHoldChange s after).raise c).headTaken q rest :=
    State.raiseIf_headTaken _ q rest true c
  rw [h.takeTurn_ok hj hrow ho, takeHoldChange_headTaken, hraise, State.settle_answered, State.settle_raise,
    State.noticed_answered, holdEvent]

/-- What a state has beside its ports, under other ports. -/
theorem State.withPorts_congr {u base : State} {pods : Vector Pod 24} {talkers : List Talker} {ports : Vector Port 3}
    (other : Vector Port 3) (h : u = { base with pods := pods, talkers := talkers, ports := ports }) :
    { u with ports := other } = { base with pods := pods, talkers := talkers, ports := other } := by
  rw [h]

/-- What an answered event at MA that raises one more category leaves as it stands, when it has changed `base` at its pods alone. -/
theorem HoldChange.answered_noticed_frame {s after base : State} (h : HoldChange s after) (q : PortId)
    (rest : List RequestFrame) (r : Reply) (cs : CategorySet) (hs : s.settled)
    (hbase : after = { base with pods := after.pods }) :
    let t := ((holdEvent s after).answered q rest r).noticed cs
    t = { base with
      pods := t.pods, talkers := talkersLeft s t
      ports := ((s.noticed (cs ||| holdNotices s t)).answered q rest r).ports } := by
  intro t
  have hports : t.ports = ((s.noticed (cs ||| holdNotices s t)).answered q rest r).ports := by
    rw [holdNotices_noticed, holdNotices_answered, ← State.noticed_noticed, ← State.noticed_answered]
    exact State.ports_noticed_congr cs (State.ports_answered_congr q rest r (h.ports_eq hs))
  have hnoticed : t = { (holdEvent s after).answered q rest r with ports := t.ports } := by
    simp only [t, State.noticed, State.mapPorts]
  have hpods : t.pods = ((holdEvent s after).answered q rest r).pods := State.pods_noticed ..
  have htalkers : talkersLeft s t = talkersLeft s ((holdEvent s after).answered q rest r) := talkersLeft_noticed ..
  rw [← hports, hpods, htalkers]
  exact hnoticed.trans (State.withPorts_congr _ (h.answered_frame q rest r hs hbase))

/-! ### Legs (R117, R121 to R124) -/

theorem Leg.active_iff (leg : Leg) : leg.active = true ↔ leg.state ≠ .closed := by simp [Leg.active]

/-- Whether a leg other than this one is OPEN or HELD (R123, R124). -/
def State.othersActive (s : State) (m : LegId) : Bool := allLegs.any fun k => k != m && (s.leg k).active

/-- Whether setting a leg's state is a close at the last-close point (R123). -/
def State.isLastClose (s : State) (m : LegId) (target : LegState) : Bool :=
  decide (target = .closed) && !s.othersActive m

/-- Whether setting a leg's state is a first open (R124). -/
def State.isFirstOpen (s : State) (m : LegId) (target : LegState) : Bool :=
  decide ((s.leg m).state = .closed) && decide (target = .opened) && !s.othersActive m

/-- A pod's hold set once a leg's state has been set, with the flush effects that the close or the open calls for (R123, R124). -/
def State.holdsAfterLeg (s : State) (m : LegId) (target : LegState) (p : PodId) : HoldSet :=
  { (s.pod p).holds with
    call := (s.pod p).holds.call && !(s.isLastClose m target && s.tuning.lastCloseDropCallHolds)
    pod := ((s.pod p).holds.pod && !(s.isLastClose m target && s.tuning.lastCloseDropPodHolds)) ||
      (s.isFirstOpen m target && s.tuning.firstOpenMutePods && (s.pod p).listed) }

/-- What the flush effects and the leg table may change of a state: pods, legs and the privacy record alone. -/
def RoomChange (s t : State) : Prop := t = { s with pods := t.pods, legs := t.legs, privacy := t.privacy }

namespace RoomChange

variable {s t u : State}

theorem trans (hst : RoomChange s t) (htu : RoomChange t u) : RoomChange s u :=
  Eq.trans htu (congrArg (fun x : State => { x with pods := u.pods, legs := u.legs, privacy := u.privacy }) hst)

theorem talkers_eq (h : RoomChange s t) : t.talkers = s.talkers := by
  unfold RoomChange at h
  rw [h]

theorem ports_eq (h : RoomChange s t) : t.ports = s.ports := by
  unfold RoomChange at h
  rw [h]

variable (s)

theorem refl : RoomChange s s := rfl

theorem mapPods (f : PodId → Pod → Pod) : RoomChange s (s.mapPods f) := by simp only [RoomChange, State.mapPods]

theorem mapLegs (f : LegId → Leg → Leg) : RoomChange s (s.mapLegs f) := by simp only [RoomChange, State.mapLegs]

theorem withPrivacy (x : Option Setter) : RoomChange s (s.withPrivacy x) := by
  simp only [RoomChange, State.withPrivacy]

end RoomChange

section
variable (s : State) (m k : LegId) (p : PodId) (target : LegState)

/-- Some leg is OPEN or HELD when this one is or another is. -/
theorem State.anyLegActive_eq : s.anyLegActive = ((s.leg m).active || s.othersActive m) := by
  rw [Bool.eq_iff_iff]
  simp only [State.anyLegActive, State.othersActive, allLegs, List.any_eq_true, List.mem_finRange, true_and,
    Bool.or_eq_true, Bool.and_eq_true, bne_iff_ne]
  constructor
  · rintro ⟨k, hk⟩
    by_cases hkm : k = m
    · exact .inl (hkm ▸ hk)
    · exact .inr ⟨k, hkm, hk⟩
  · rintro (hm | ⟨k, -, hk⟩)
    · exact ⟨m, hm⟩
    · exact ⟨k, hk⟩

/-- The close of one leg that is OPEN or HELD is a last close when no other leg is. -/
theorem State.lastCloses_eq (h : (s.leg m).state ≠ .closed) : s.lastCloses (fun k => k == m) = !s.othersActive m := by
  have hactive := ((s.leg m).active_iff).2 h
  have hany : (allLegs.any fun k => k == m && (s.leg k).active) = true :=
    List.any_eq_true.2 ⟨m, List.mem_finRange m, by simp [hactive]⟩
  rw [State.lastCloses, hany, Bool.true_and, State.othersActive, List.not_any_eq_all_not]
  congr 1
  funext k
  cases hk : k == m <;> simp [bne, hk]

theorem State.isLastClose_of_ne (h : target ≠ .closed) : s.isLastClose m target = false := by simp [State.isLastClose, h]

/-- A first open is the opening of a CLOSED leg while no leg is OPEN or HELD (R124). -/
theorem State.isFirstOpen_opened : s.isFirstOpen m .opened = !s.anyLegActive := by
  simp [State.isFirstOpen, s.anyLegActive_eq m, Leg.active, bne, beq_eq_decide]

theorem State.lastClose_eq : s.lastClose =
    let s1 := s.mapPods fun _ pod => { pod with holds := pod.holds.afterLastClose s.tuning }
    if s.tuning.lastCloseEndPrivacy then s1.withPrivacy none else s1 := rfl

/-- A first open changes no field of a pod but its hold set (R124). -/
theorem State.pod_firstOpen_eq : s.firstOpen.pod p = { s.pod p with holds := { (s.pod p).holds with
    pod := (s.pod p).holds.pod || (s.tuning.firstOpenMutePods && (s.pod p).listed) } } := by
  rw [State.pod_firstOpen]
  cases s.tuning.firstOpenMutePods && (s.pod p).listed <;> simp

/-- The leg table after an executed LEG_STATE that changes a leg's state (Table 7-3, R51, R122). -/
theorem State.leg_setLegState (h : (s.leg m).state ≠ target) : (s.setLegState m target).leg k =
    if k ≠ m then s.leg k
    else if target = .closed then (s.leg m).close s.tuning.closeDropLegHolds
    else { s.leg m with state := target } := by
  cases target with
  | closed =>
    by_cases hk : k = m
    · simp [State.setLegState, hk, (Leg.active_iff _).2 h]
    · simp [State.setLegState, hk]
  | held => by_cases hk : k = m <;> simp [State.setLegState, hk]
  | opened =>
    simp only [State.setLegState]
    by_cases hk : k = m <;> split <;> simp [hk]

/-- The pods after an executed LEG_STATE that changes a leg's state, before R21: hold sets alone have changed (R123, R124). -/
theorem State.pod_setLegState (h : (s.leg m).state ≠ target) :
    (s.setLegState m target).pod p = { s.pod p with holds := s.holdsAfterLeg m target p } := by
  cases target with
  | closed =>
    obtain ⟨hpod, -⟩ := s.closeLegs_lastClose p fun k => k == m
    simp only [State.setLegState, hpod, s.lastCloses_eq m h]
    cases hothers : s.othersActive m <;>
      simp [State.holdsAfterLeg, State.isLastClose, State.isFirstOpen, HoldSet.afterLastClose, hothers]
  | held => simp [State.setLegState, State.holdsAfterLeg, State.isFirstOpen, State.isLastClose]
  | opened =>
    simp only [State.setLegState, State.holdsAfterLeg, s.isFirstOpen_opened m, s.isLastClose_of_ne m .opened (by decide)]
    cases s.anyLegActive <;> simp [-State.pod_firstOpen, State.pod_firstOpen_eq]

/-- The privacy record after an executed LEG_STATE that changes a leg's state (R123). -/
theorem State.privacy_setLegState (h : (s.leg m).state ≠ target) : (s.setLegState m target).privacy =
    if s.isLastClose m target && s.tuning.lastCloseEndPrivacy then none else s.privacy := by
  cases target with
  | closed =>
    obtain ⟨-, hprivacy⟩ := s.closeLegs_lastClose 0 fun k => k == m
    simp only [State.setLegState, hprivacy, s.lastCloses_eq m h]
    cases hothers : s.othersActive m <;> simp [State.isLastClose, hothers]
  | held => simp [State.setLegState, State.isLastClose]
  | opened =>
    simp only [State.setLegState, s.isLastClose_of_ne m .opened (by decide)]
    split <;> simp

theorem RoomChange.lastClose : RoomChange s s.lastClose := by
  rw [State.lastClose_eq]
  split
  · exact (mapPods s _).trans (withPrivacy _ none)
  · exact mapPods s _

theorem RoomChange.firstOpen : RoomChange s s.firstOpen := by
  unfold State.firstOpen
  split
  · exact mapPods s _
  · exact refl s

theorem RoomChange.closeLegs (pick : LegId → Bool) : RoomChange s (s.closeLegs pick) := by
  unfold State.closeLegs
  simp only
  split
  · exact (mapLegs s _).trans (lastClose _)
  · exact mapLegs s _

theorem RoomChange.setLegState : RoomChange s (s.setLegState m target) := by
  cases target with
  | closed => exact closeLegs s _
  | held => exact mapLegs s _
  | opened =>
    simp only [State.setLegState]
    split
    · exact mapLegs s _
    · exact (mapLegs s _).trans (firstOpen _)

theorem HoldChange.setLegState (h : (s.leg m).state ≠ target) : HoldChange s (s.setLegState m target) :=
  ⟨fun p => by rw [s.pod_setLegState m p target h], (RoomChange.setLegState s m target).talkers_eq,
    (RoomChange.setLegState s m target).ports_eq⟩

end

/-! ### The request queues take no part in what a leg's state sets in motion -/

section
variable (s : State) (q : PortId) (rest : List RequestFrame) (m : LegId) (target : LegState)

theorem State.mapLegs_headTaken (f : LegId → Leg → Leg) :
    (s.headTaken q rest).mapLegs f = (s.mapLegs f).headTaken q rest := by
  simp only [State.headTaken, State.modPort, State.mapPorts, State.mapLegs, State.leg, State.port]

theorem State.mapPods_headTaken (f : PodId → Pod → Pod) :
    (s.headTaken q rest).mapPods f = (s.mapPods f).headTaken q rest := State.mapPods_modPort ..

@[simp] theorem State.tuning_headTaken : (s.headTaken q rest).tuning = s.tuning := by simp [State.headTaken]

@[simp] theorem State.anyLegActive_headTaken : (s.headTaken q rest).anyLegActive = s.anyLegActive := by
  simp [State.anyLegActive]

theorem State.lastClose_headTaken : (s.headTaken q rest).lastClose = s.lastClose.headTaken q rest := by
  have hprivacy (t : State) : (t.headTaken q rest).withPrivacy none = (t.withPrivacy none).headTaken q rest :=
    t.withPrivacy_headTaken none q rest
  simp only [State.lastClose_eq, State.tuning_headTaken, State.mapPods_headTaken, hprivacy]
  split <;> rfl

theorem State.closeLegs_headTaken (pick : LegId → Bool) :
    (s.headTaken q rest).closeLegs pick = (s.closeLegs pick).headTaken q rest := by
  simp only [State.closeLegs, State.tuning_headTaken, State.leg_headTaken, State.mapLegs_headTaken,
    State.anyLegActive_headTaken, State.lastClose_headTaken]
  split <;> rfl

theorem State.firstOpen_headTaken : (s.headTaken q rest).firstOpen = s.firstOpen.headTaken q rest := by
  simp only [State.firstOpen, State.tuning_headTaken, State.mapPods_headTaken]
  split <;> rfl

theorem State.setLegState_headTaken :
    (s.headTaken q rest).setLegState m target = (s.setLegState m target).headTaken q rest := by
  cases target with
  | closed => exact s.closeLegs_headTaken q rest _
  | held => exact s.mapLegs_headTaken q rest _
  | opened =>
    simp only [State.setLegState, State.modLeg, State.mapLegs_headTaken, State.anyLegActive_headTaken,
      State.firstOpen_headTaken]
    split <;> rfl

end

/-! ### LEG_STATE (R119, R120, Table 7-3) -/

theorem exec_legState (q : PortId) (s : State) :
    exec (.legState q) s = .next (takeTurn .legState requestLegState q s) := rfl

theorem row_legState (operands : List Byte) : (goodFrame 0x20 operands).row = .legState := rfl

/-- The operand bytes of LEG_STATE for a leg and a target, which are also the payload of its answer (R119, R120). -/
def legStateBytes (m : LegId) (target : LegState) : List Byte := [byteOf m.val, byteOf target.code]

theorem legStateOfCode_code (target : LegState) : legStateOfCode (number [byteOf target.code]) = some target := by
  cases target <;> rfl

theorem legOfIndex_byteOf (m : LegId) : legOfIndex (number [byteOf m.val]) = some m := by
  revert m
  decide

/-- LEG_STATE of a leg and a target, from CALL, comes to the transition check (R119). -/
theorem requestLegState_call {s : State} {q : PortId} (m : LegId) (target : LegState) (hj : JoinedAs s q .call) :
    requestLegState q (goodFrame 0x20 (legStateBytes m target)) s = legTransition m target s := by
  simp [requestLegState, goodFrame, legStateBytes, ensure, legStateOfCode_code, legOfIndex_byteOf, hj.roleIn]

section
variable {s : State} {q : PortId} {m : LegId} {target : LegState} {rest : List RequestFrame}
  (hj : JoinedAs s q .call) (h : AtTurn s q (goodFrame 0x20 (legStateBytes m target)) rest)
include hj h

/-- A leg that stands at the target already: DONE, and nothing changes (Table 7-3). -/
theorem exec_legState_same (hstate : (s.leg m).state = target) :
    exec (.legState q) s = .next (s.answered q rest ⟨.done, 0x20, legStateBytes m target⟩) := by
  have ho := requestLegState_call m target (hj.headTaken rest)
  rw [legTransition, State.leg_headTaken, if_pos hstate] at ho
  rw [exec_legState, h.takeTurn_unchanged hj (row_legState _) ho]
  rfl

/-- A CLOSED leg cannot be held: refused STATE (R119). -/
theorem exec_legState_refused (hclosed : (s.leg m).state = .closed) (hheld : target = .held) :
    exec (.legState q) s = .next (s.answered q rest ⟨.refused .state, 0x20, []⟩) := by
  have ho := requestLegState_call m target (hj.headTaken rest)
  rw [legTransition, State.leg_headTaken, if_neg (by simp [hclosed, hheld]), if_pos ⟨hclosed, hheld⟩] at ho
  rw [exec_legState, h.takeTurn_refused hj (row_legState _) ho]
  rfl

/-- A leg that changes state: an event at MA with its LEGS notice, answered DONE (R120, R121). -/
theorem exec_legState_changed (hstate : (s.leg m).state ≠ target)
    (hallowed : ¬ ((s.leg m).state = .closed ∧ target = .held)) :
    exec (.legState q) s = .next
      (((holdEvent s (s.setLegState m target)).answered q rest ⟨.done, 0x20, legStateBytes m target⟩).noticed
        Category.legs.bit) := by
  have ho := requestLegState_call m target (hj.headTaken rest)
  rw [legTransition, State.leg_headTaken, if_neg hstate, if_neg hallowed, State.takeLegState,
    State.setLegState_headTaken] at ho
  rw [exec_legState, h.takeTurn_holdEvent_raise hj (row_legState _) ho]
  rfl

end

/-- The target codes of LEG_STATE (Table 12-2). -/
theorem byteOf_code_of_target {code : Byte} {target : LegState}
    (h : (code = 0 ∧ target = .closed) ∨ (code = 1 ∧ target = .opened) ∨ (code = 2 ∧ target = .held)) :
    code = byteOf target.code := by
  rcases h with ⟨rfl, rfl⟩ | ⟨rfl, rfl⟩ | ⟨rfl, rfl⟩ <;> rfl

end Sys2Proof.Machine

open Sys2Proof Sys2Proof.Machine

/-- Settles O23: the turns of a request that changes nothing, of a refused one, and of one that changes the leg's state, which is an event at MA with a LEGS notice. -/
theorem legStateChanges : Obligations.LegStateChanges := by
  unfold Obligations.LegStateChanges
  intro s q m code target rest hj hturn hcode
  obtain rfl := byteOf_code_of_target hcode
  refine ⟨exec_legState_same hj hturn, exec_legState_refused hj hturn, fun hstate hallowed => ?_⟩
  have hchange := HoldChange.setLegState s m target hstate
  refine ⟨_, exec_legState_changed hj hturn hstate hallowed, fun k => ?_, fun p => ?_, ?_, ?_, ?_⟩
  · rw [State.leg_noticed, State.leg_answered, leg_holdEvent, s.leg_setLegState m k target hstate]
    rfl
  · rw [State.pod_noticed, State.pod_answered, holds_holdEvent, s.pod_setLegState m p target hstate]
    rfl
  · rw [State.privacy_noticed, State.privacy_answered, privacy_holdEvent, s.privacy_setLegState m target hstate]
    rfl
  · rw [heldPods_noticed]
    exact hchange.heldPods_answered q rest _ fun p => by rw [s.pod_setLegState m p target hstate]
  · have hframe := hchange.answered_noticed_frame q rest ⟨.done, 0x20, legStateBytes m target⟩ Category.legs.bit
      hturn.settled (base := { s with
        legs := (s.setLegState m target).legs, privacy := (s.setLegState m target).privacy })
      (RoomChange.setLegState s m target)
    rw [State.legs_noticed, State.legs_answered, legs_holdEvent, State.privacy_noticed, State.privacy_answered,
      privacy_holdEvent]
    exact hframe

end

section
/-! NOTICES and WATCH (R159): the turn of a request that changes its own port's record alone, and the two requests. -/

namespace Sys2Proof.Machine

/-! ### The turn of a request that changes its own port alone (R151) -/

/-- In a settled state one port's record is changed and its head frame answered: nothing else is left to recompute. -/
theorem State.settle_modPort_answered {s : State} (h : s.settled) (q : PortId) (g : Port → Port)
    (rest : List RequestFrame) (r : Reply) :
    (s.modPort q g).settle.answered q rest r = s.modPort q fun port => (g port).answered rest r := by
  have hports := ((State.settled_iff s).1 h).2
  simp only [State.answered, State.modPort, State.settle_mapPorts h, State.mapPorts_mapPorts]
  refine State.mapPorts_congr fun k => ?_
  by_cases hk : k = q
  · simp [hk, Port.answered]
  · simp [hk, ← hports k]

/-- The turn of an executed request whose effects are on the record of its own port alone. -/
theorem AtTurn.takeTurn_modPort {s : State} {q : PortId} {f : RequestFrame} {rest : List RequestFrame}
    {row : RequestRow} {request : Request} {role : Role} {a : Answer} {g : Port → Port} (h : AtTurn s q f rest)
    (hj : JoinedAs s q role) (hrow : f.row = row)
    (ho : request q f (s.headTaken q rest) = .ok (a, (s.modPort q g).headTaken q rest)) :
    takeTurn row request q s = s.modPort q fun port => (g port).answered rest ⟨a.status, f.code, a.payload⟩ := by
  rw [h.takeTurn_ok hj hrow ho, State.settle_answered, State.settle_modPort_answered h.settled]

/-- A change of a port's record that does not see its request queue passes by the head frame's leaving. -/
theorem State.modPort_headTaken (s : State) (q : PortId) (rest : List RequestFrame) {g : Port → Port}
    (hg : ∀ port : Port, g { port with requests := rest } = { g port with requests := rest }) :
    (s.headTaken q rest).modPort q g = (s.modPort q g).headTaken q rest := by
  simp only [State.headTaken, State.modPort, State.mapPorts_mapPorts]
  refine State.mapPorts_congr fun k => ?_
  by_cases hk : k = q <;> simp [hk, hg]

@[simp] theorem State.pendingSet_headTaken (s : State) (q : PortId) (rest : List RequestFrame) (k : PortId) :
    ((s.headTaken q rest).port k).pendingSet = (s.port k).pendingSet := by
  by_cases hk : k = q <;> simp [State.headTaken, hk]

/-- Every role may send a request that Table 9-3 opens to the three of them. -/
theorem JoinedAs.roleIn_all {s : State} {q : PortId} {role : Role} (h : JoinedAs s q role) :
    s.roleIn q [.call, .room, .view] = true := by
  rw [h.roleIn]
  cases role <;> rfl

/-! ### NOTICES (R159) -/

theorem exec_notices (q : PortId) (s : State) :
    exec (.notices q) s = .next (takeTurn .notices requestNotices q s) := rfl

theorem row_notices (operands : List Byte) : (goodFrame 0x04 operands).row = .notices := rfl

/-- A port whose pending set has been returned and emptied (R159). -/
def Port.noticesTaken (port : Port) : Port := { port with pendingSet := 0 }

/-- What NOTICES does once its checks are passed (R159). -/
theorem requestNotices_ok {s : State} {q : PortId} {role : Role} (hj : JoinedAs s q role) :
    requestNotices q (goodFrame 0x04 []) s =
      answerDone [categoryByte (s.port q).pendingSet] (s.modPort q Port.noticesTaken) := by
  simp only [requestNotices, goodFrame, ensure, List.isEmpty_nil, hj.roleIn_all, if_true]
  rfl

theorem requestNotices_length {s : State} {q : PortId} {operands : List Byte} (h : operands ≠ []) :
    requestNotices q (goodFrame 0x04 operands) s = refuse .length := by
  simp [requestNotices, goodFrame, ensure, h]

/-- The turn of NOTICES: the pending set is returned and emptied (R159). -/
theorem exec_notices_atTurn {s : State} {q : PortId} {role : Role} {rest : List RequestFrame} (hj : JoinedAs s q role)
    (h : AtTurn s q (goodFrame 0x04 []) rest) :
    exec (.notices q) s = .next (s.modPort q fun port =>
      port.noticesTaken.answered rest ⟨.done, 0x04, [categoryByte (s.port q).pendingSet]⟩) := by
  have ho := requestNotices_ok (hj.headTaken rest)
  rw [State.pendingSet_headTaken, State.modPort_headTaken s q rest fun _ => rfl] at ho
  rw [exec_notices, h.takeTurn_modPort hj (row_notices []) ho]
  rfl

/-! ### WATCH (R159) -/

theorem exec_watch (q : PortId) (s : State) : exec (.watch q) s = .next (takeTurn .watch requestWatch q s) := rfl

theorem row_watch (operands : List Byte) : (goodFrame 0x05 operands).row = .watch := rfl

/-- A port that watches these categories and no others (R159). -/
def Port.watching (port : Port) (cs : CategorySet) : Port :=
  { port with mask := cs, pendingSet := port.pendingSet &&& cs }

/-- The categories that a mask operand names: its bit 7 names none (R159, Table 12-1). -/
theorem categoriesNamed_eq (b : Byte) : BitVec.ofNat 7 (number [b]) = b.extractLsb' 0 7 := by
  simp [number, BitVec.extractLsb']

/-- The applied mask is the one asked for exactly when bit 7 of the operand is 0. -/
theorem categoriesNamed_toNat_eq_iff (b : Byte) : (b.extractLsb' 0 7).toNat = number [b] ↔ b.getLsbD 7 = false := by
  have hbit : b.getLsbD 7 = decide (128 ≤ b.toNat) := BitVec.msb_eq_decide b
  have hlt := b.isLt
  simp only [number, List.foldl_cons, List.foldl_nil, BitVec.extractLsb'_toNat, Nat.shiftRight_zero, hbit,
    decide_eq_false_iff_not]
  omega

/-- What WATCH does once its checks are passed (R159). -/
theorem requestWatch_ok {s : State} {q : PortId} {role : Role} (b : Byte) (hj : JoinedAs s q role) :
    requestWatch q (goodFrame 0x05 [b]) s =
      .ok (⟨if b.getLsbD 7 then .clamped else .done, [categoryByte (b.extractLsb' 0 7)]⟩,
        s.modPort q fun port => port.watching (b.extractLsb' 0 7)) := by
  have hstatus : doneIf ((b.extractLsb' 0 7).toNat == number [b]) = if b.getLsbD 7 then .clamped else .done := by
    simp only [doneIf_beq, categoriesNamed_toNat_eq_iff]
    cases b.getLsbD 7 <;> rfl
  simp only [requestWatch, goodFrame, ensure, List.length_singleton, beq_self_eq_true, hj.roleIn_all, if_true,
    categoriesNamed_eq, answerApplied, hstatus]
  rfl

theorem requestWatch_length {s : State} {q : PortId} {operands : List Byte} (h : operands.length ≠ 1) :
    requestWatch q (goodFrame 0x05 operands) s = refuse .length := by
  simp [requestWatch, goodFrame, ensure, h]

/-- The turn of WATCH: the mask is set and returned, and the pending set keeps what stays in it (R159). -/
theorem exec_watch_atTurn {s : State} {q : PortId} {role : Role} {b : Byte} {rest : List RequestFrame}
    (hj : JoinedAs s q role) (h : AtTurn s q (goodFrame 0x05 [b]) rest) :
    exec (.watch q) s = .next (s.modPort q fun port => (port.watching (b.extractLsb' 0 7)).answered rest
      ⟨if b.getLsbD 7 then .clamped else .done, 0x05, [categoryByte (b.extractLsb' 0 7)]⟩) := by
  have ho := requestWatch_ok b (hj.headTaken rest)
  rw [State.modPort_headTaken s q rest fun _ => rfl] at ho
  rw [exec_watch, h.takeTurn_modPort hj (row_watch [b]) ho]
  rfl

end Sys2Proof.Machine

open Sys2Proof Sys2Proof.Machine

/-- Settles O15: the turns of NOTICES and of WATCH, each a change of its own port alone, and the turns refused LENGTH. -/
theorem noticesAndWatch : Obligations.NoticesAndWatch := by
  unfold Obligations.NoticesAndWatch
  intro s q role rest hj
  refine ⟨fun hturn => ?_, fun b hturn => exec_watch_atTurn hj hturn, fun operands =>
    ⟨fun hlength hturn => ?_, fun hlength hturn => ?_⟩⟩
  · rw [exec_notices_atTurn hj hturn]
    refine congrArg Host.Outcome.next (State.mapPorts_congr fun k => ?_)
    by_cases hk : k = q
    · subst hk
      rfl
    · simp [hk]
  · rw [exec_notices, hturn.takeTurn_refused hj (row_notices operands) (requestNotices_length hlength)]
    rfl
  · rw [exec_watch, hturn.takeTurn_refused hj (row_watch operands) (requestWatch_length hlength)]
    rfl

end

section
/-! LEAVE (R39, R125, R126, R155): a port that gives its role up, the vacancy of a role, and the turn of the request. -/

namespace Sys2Proof.Machine

/-! ### Notices around an event at MA (R158, R160) -/

/-- A port after an event at MA (R21, R22, R160). -/
theorem HoldChange.port_eq {s after : State} (h : HoldChange s after) (hs : s.settled) (k : PortId) :
    (holdEvent s after).port k = (s.port k).noticed (holdNotices s (holdEvent s after)) := by
  have hport : (holdEvent s after).port k = (s.noticed (holdNotices s (holdEvent s after))).port k := by
    rw [State.port, h.ports_eq hs]
    rfl
  rw [hport, State.noticed, State.port_mapPorts]

/-- A notice that is raised or not before the end of the event is one raised or not after it. -/
theorem State.settle_raiseIf (s : State) (b : Bool) (c : Category) :
    (s.raiseIf b c).settle = s.settle.noticed (onlyIf b c) := by
  cases b with
  | true => exact s.settle_raise c
  | false =>
    have hsame : s.raiseIf false c = s := rfl
    rw [hsame]
    simp only [State.settle, State.noticed, State.mapPorts_mapPorts]
    refine State.mapPorts_congr fun q => ?_
    rw [Port.noticed_onlyIf rfl]
    rfl

theorem State.raisePortsOthers_headTaken (s : State) (q : PortId) (rest : List RequestFrame) :
    (s.headTaken q rest).raisePortsOthers q = (s.raisePortsOthers q).headTaken q rest := by
  simp only [State.raisePortsOthers, State.headTaken, State.modPort, State.mapPorts_mapPorts]
  refine State.mapPorts_congr fun k => ?_
  by_cases hk : k = q <;> simp [hk]

/-! ### A port that gives its role up (R155, R157) -/

/-- The state with one port in a state without a role, and nothing else changed (R155, R157). -/
def State.vacated (s : State) (q : PortId) (state : PortState) : State := s.modPort q fun port => port.vacate state

/-- A port in a state without a role takes no notice (R158). -/
theorem Port.notify_vacate {state : PortState} (hstate : ∀ port : Port, (port.vacate state).joined = false) (c : Category)
    (port : Port) : (port.vacate state).notify c = port.vacate state := by
  rw [Port.notify, hstate]
  rfl

/-- A port that gives its role up keeps none of the notices that it took (R155). -/
theorem Port.vacate_notify (state : PortState) (c : Category) (port : Port) :
    (port.notify c).vacate state = port.vacate state := by
  rw [Port.notify_eq]
  rfl

theorem Port.vacate_noticed_answered (state : PortState) (port : Port) (cs : CategorySet) (rest : List RequestFrame)
    (r : Reply) : ((port.noticed cs).answered rest r).vacate state = (port.answered rest r).vacate state := by
  unfold Port.noticed
  split <;> rfl

section
variable (s t : State) (q : PortId) (state : PortState) (p : PodId) (m : LegId)

@[simp] theorem State.pod_vacated : (s.vacated q state).pod p = s.pod p := by simp [State.vacated]
@[simp] theorem State.leg_vacated : (s.vacated q state).leg m = s.leg m := by simp [State.vacated]
@[simp] theorem State.privacy_vacated : (s.vacated q state).privacy = s.privacy := by simp [State.vacated]
@[simp] theorem State.talkers_vacated : (s.vacated q state).talkers = s.talkers := by simp [State.vacated]
@[simp] theorem State.muted_vacated : (s.vacated q state).muted p = s.muted p := State.muted_mapPorts ..
@[simp] theorem State.unmuted_vacated : (s.vacated q state).unmuted p = s.unmuted p := State.unmuted_mapPorts ..
@[simp] theorem State.gateOf_vacated : (s.vacated q state).gateOf p = s.gateOf p := State.gateOf_mapPorts ..
@[simp] theorem State.patternOf_vacated : (s.vacated q state).patternOf p = s.patternOf p := State.patternOf_mapPorts ..

@[simp] theorem talkersLeft_vacated : talkersLeft s (t.vacated q state) = talkersLeft s t := by simp [talkersLeft]
@[simp] theorem holdNotices_vacated : holdNotices s (t.vacated q state) = holdNotices s t := by
  simp [holdNotices, holdsDiffer, talkersMoved]
@[simp] theorem heldPods_vacated : heldPods s (t.vacated q state) ↔ heldPods s t := by
  simp [heldPods, flagLeft, Pod.following]

theorem State.vacated_headTaken (rest : List RequestFrame) :
    (s.headTaken q rest).vacated q state = (s.vacated q state).headTaken q rest :=
  State.modPort_headTaken s q rest fun _ => rfl

/-- A port may give its role up before it answers or after. -/
theorem State.settle_vacated_answered (rest : List RequestFrame) (r : Reply) :
    (s.vacated q state).settle.answered q rest r = (s.settle.answered q rest r).vacated q state := by
  simp only [State.vacated, State.answered, State.settle, State.modPort, State.mapPorts_mapPorts, State.mapPods_mapPorts,
    State.gateOf_mapPorts, State.patternOf_mapPorts]
  refine State.mapPorts_congr fun k => ?_
  by_cases hk : k = q
  · simp [hk, Port.answered, Port.vacate]
  · simp [hk]

end

/-- A notice leaves the same, whether it is raised before a port gives its role up or after it (R158). -/
theorem State.raiseIf_vacated {state : PortState} (hstate : ∀ port : Port, (port.vacate state).joined = false) (s : State)
    (q : PortId) (b : Bool) (c : Category) : (s.vacated q state).raiseIf b c = (s.raiseIf b c).vacated q state := by
  simp only [State.raiseIf_eq_mapPorts, State.vacated, State.modPort, State.mapPorts_mapPorts]
  refine State.mapPorts_congr fun k => ?_
  by_cases hk : k = q <;> cases b <;> simp [hk, Port.notify_vacate hstate, Port.vacate_notify]

/-- PORTS reaches the other ports alone when the port itself has given its role up (R158). -/
theorem State.raisePortsOthers_vacated (s : State) (q : PortId) (state : PortState) :
    (s.vacated q state).raisePortsOthers q = (s.raise .ports).vacated q state := by
  simp only [State.raisePortsOthers, State.raise, State.vacated, State.modPort, State.mapPorts_mapPorts]
  refine State.mapPorts_congr fun k => ?_
  by_cases hk : k = q <;> simp [hk, Port.vacate_notify]

/-- What MA does with a hold change is the same whether a port gives its role up before it or after it (R21, R22). -/
theorem takeHoldChange_vacated {state : PortState} (hstate : ∀ port : Port, (port.vacate state).joined = false)
    (s after : State) (q : PortId) :
    takeHoldChange s (after.vacated q state) = (takeHoldChange s after).vacated q state := by
  have hdiffer : holdsDiffer s (after.vacated q state) = holdsDiffer s after := by simp [holdsDiffer]
  have htalkers (l : List Talker) :
      { after.vacated q state with talkers := l } = ({ after with talkers := l } : State).vacated q state := by
    simp only [State.vacated, State.modPort, State.mapPorts, State.port]
  simp only [takeHoldChange, State.muted_vacated, State.unmuted_vacated, State.talkers_vacated, State.pod_vacated, hdiffer,
    htalkers]
  rw [State.vacated, State.mapPods_modPort, ← State.vacated, State.raiseIf_vacated hstate, State.raiseIf_vacated hstate]

/-! ### The vacancy of a role takes no part in the ports, nor they in it -/

section
variable (s : State) (f : PortId → Port → Port) (role : Option Role)

theorem State.mapLegs_mapPorts (g : LegId → Leg → Leg) : (s.mapPorts f).mapLegs g = (s.mapLegs g).mapPorts f := by
  simp only [State.mapPorts, State.mapLegs, State.leg, State.port]

theorem State.lastClose_mapPorts : (s.mapPorts f).lastClose = s.lastClose.mapPorts f := by
  have hprivacy (t : State) : (t.mapPorts f).withPrivacy none = (t.withPrivacy none).mapPorts f := by
    simp only [State.withPrivacy, State.mapPorts, State.port]
  simp only [State.lastClose_eq, State.tuning_mapPorts, State.mapPods_mapPorts, hprivacy]
  split <;> rfl

@[simp] theorem State.anyLegActive_mapPorts : (s.mapPorts f).anyLegActive = s.anyLegActive := by simp [State.anyLegActive]

theorem State.closeLegs_mapPorts (pick : LegId → Bool) : (s.mapPorts f).closeLegs pick = (s.closeLegs pick).mapPorts f := by
  simp only [State.closeLegs, State.tuning_mapPorts, State.leg_mapPorts, State.mapLegs_mapPorts,
    State.anyLegActive_mapPorts, State.lastClose_mapPorts]
  split <;> rfl

/-- What the vacancy of a role leaves of the holds and the legs when the role's own holds go with it (R39, R125, R126). -/
def State.roleGone : State := (s.dropRoleHolds role).vacateLegs role

theorem State.roleGone_mapPorts : (s.mapPorts f).roleGone role = (s.roleGone role).mapPorts f := by
  simp only [State.roleGone, State.dropRoleHolds, State.vacateLegs, State.mapPods_mapPorts, State.mapLegs_mapPorts,
    State.closeLegs_mapPorts]
  split <;> rfl

end

/-! ### What the vacancy of a role leaves (R39, R123, R125, R126) -/

/-- Whether the vacancy of a role closes a leg: that of CALL, while a leg is OPEN or HELD (R125, R126). -/
def State.vacancyCloses (s : State) (role : Role) : Bool := decide (role = .call) && s.anyLegActive

section
variable (s : State) (role : Role) (p : PodId) (m : LegId)

@[simp] theorem State.pod_dropRoleHolds (role : Option Role) :
    (s.dropRoleHolds role).pod p = { s.pod p with holds := (s.pod p).holds.removeRole role } := by
  simp [State.dropRoleHolds]

@[simp] theorem State.leg_dropRoleHolds (role : Option Role) : (s.dropRoleHolds role).leg m =
    { s.leg m with
      sendHolds := (s.leg m).sendHolds.removeRole role, receiveHolds := (s.leg m).receiveHolds.removeRole role } := by
  simp [State.dropRoleHolds]

@[simp] theorem State.privacy_dropRoleHolds (role : Option Role) : (s.dropRoleHolds role).privacy = s.privacy := by
  simp [State.dropRoleHolds]

@[simp] theorem State.tuning_dropRoleHolds (role : Option Role) : (s.dropRoleHolds role).tuning = s.tuning := by
  simp [State.dropRoleHolds]

@[simp] theorem State.vacancyCloses_dropRoleHolds (gone : Option Role) :
    (s.dropRoleHolds gone).vacancyCloses role = s.vacancyCloses role := by
  simp [State.vacancyCloses, State.anyLegActive, Leg.active]

theorem State.vacancyCloses_of_ne (h : role ≠ .call) : s.vacancyCloses role = false := by simp [State.vacancyCloses, h]

/-- Closing every leg that is OPEN or HELD is a last close when there is one (R123). -/
theorem State.lastCloses_all : s.lastCloses (fun _ => true) = s.anyLegActive := by
  simp [State.lastCloses, State.anyLegActive]

/-- The effects of a vacancy on pods and privacy are those of a last close, when it closes a leg (R123, R125, R126). -/
theorem State.vacateLegs_lastClose :
    (s.vacateLegs (some role)).pod p = (if s.vacancyCloses role then s.lastClose.pod p else s.pod p) ∧
    (s.vacateLegs (some role)).privacy = (if s.vacancyCloses role then s.lastClose.privacy else s.privacy) := by
  by_cases hcall : role = .call
  · simpa only [State.vacateLegs, State.vacancyCloses, hcall, if_true, decide_true, Bool.true_and, s.lastCloses_all] using
      s.closeLegs_lastClose p fun _ => true
  · simp [State.vacateLegs, State.vacancyCloses, hcall]

/-- The vacancy of CALL closes every leg that is OPEN or HELD, that of another role none (R125, R126). -/
theorem State.leg_vacateLegs : (s.vacateLegs (some role)).leg m =
    if decide (role = .call) && (s.leg m).active then (s.leg m).close s.tuning.closeDropLegHolds else s.leg m := by
  by_cases hcall : role = .call <;> simp [State.vacateLegs, hcall]

/-- A pod's hold set once a role's own holds have gone, with the flush effects that the vacancy calls for (R39, R123). -/
def State.holdsWithoutRole : HoldSet :=
  { (s.pod p).holds with
    room := (s.pod p).holds.room && decide (role ≠ .room)
    call := (s.pod p).holds.call && decide (role ≠ .call)
    pod := (s.pod p).holds.pod && !(s.vacancyCloses role && s.tuning.lastCloseDropPodHolds) }

/-- The pods once a role is gone, before R21: hold sets alone have changed. A flush effect on CALL's holds finds none left. -/
theorem State.pod_roleGone :
    (s.roleGone (some role)).pod p = { s.pod p with holds := s.holdsWithoutRole role p } := by
  obtain ⟨hpod, -⟩ := (s.dropRoleHolds (some role)).vacateLegs_lastClose role p
  simp only [State.roleGone, hpod, State.pod_lastClose, State.pod_dropRoleHolds, State.tuning_dropRoleHolds,
    State.vacancyCloses_dropRoleHolds, State.holdsWithoutRole]
  cases role with
  | call => cases s.vacancyCloses .call <;> simp [HoldSet.removeRole, HoldSet.afterLastClose]
  | room => simp [HoldSet.removeRole, s.vacancyCloses_of_ne .room]
  | view => simp [HoldSet.removeRole, s.vacancyCloses_of_ne .view]

/-- The leg table once a role is gone (R39, R51, R122, R125). -/
theorem State.leg_roleGone : (s.roleGone (some role)).leg m =
    let dropped : Leg := { s.leg m with
      sendHolds := (s.leg m).sendHolds.removeRole (some role)
      receiveHolds := (s.leg m).receiveHolds.removeRole (some role) }
    if decide (role = .call) && (s.leg m).active then dropped.close s.tuning.closeDropLegHolds else dropped := by
  rw [State.roleGone, State.leg_vacateLegs, State.leg_dropRoleHolds, State.tuning_dropRoleHolds]
  rfl

/-- The privacy record once a role is gone (R123). -/
theorem State.privacy_roleGone : (s.roleGone (some role)).privacy =
    if s.vacancyCloses role && s.tuning.lastCloseEndPrivacy then none else s.privacy := by
  obtain ⟨-, hprivacy⟩ := (s.dropRoleHolds (some role)).vacateLegs_lastClose role 0
  simp only [State.roleGone, hprivacy, State.privacy_lastClose, State.privacy_dropRoleHolds, State.tuning_dropRoleHolds,
    State.vacancyCloses_dropRoleHolds]
  cases s.vacancyCloses role <;> simp

theorem RoomChange.vacateLegs (role : Option Role) : RoomChange s (s.vacateLegs role) := by
  unfold State.vacateLegs
  split
  · exact closeLegs s _
  · exact refl s

theorem RoomChange.roleGone (role : Option Role) : RoomChange s (s.roleGone role) :=
  ((mapPods s _).trans (mapLegs _ _)).trans (vacateLegs _ role)

theorem HoldChange.roleGone : HoldChange s (s.roleGone (some role)) :=
  ⟨fun p => by rw [State.pod_roleGone], (RoomChange.roleGone s _).talkers_eq, (RoomChange.roleGone s _).ports_eq⟩

end

/-! ### LEAVE (R155) -/

theorem exec_leave (q : PortId) (s : State) : exec (.leave q) s = .next (takeTurn .leave requestLeave q s) := rfl

theorem row_leave (operands : List Byte) : (goodFrame 0x02 operands).row = .leave := rfl

theorem requestLeave_length {s : State} {q : PortId} {operands : List Byte} (h : operands ≠ []) :
    requestLeave q (goodFrame 0x02 operands) s = refuse .length := by
  simp [requestLeave, goodFrame, ensure, h]

/-- What LEAVE does: an event at MA with the notices LEGS and PORTS, after which the port is DETACHED (R39, R125, R155). -/
theorem State.takeLeave_headTaken {s : State} {q : PortId} {role : Role} (hj : JoinedAs s q role)
    (rest : List RequestFrame) : (s.headTaken q rest).takeLeave q =
      ((((takeHoldChange s (s.roleGone (some role))).raiseIf (s.vacancyCloses role) .legs).raise .ports).vacated q
        .detached).headTaken q rest := by
  have hdetached : ∀ port : Port, (port.vacate .detached).joined = false := fun _ => rfl
  have hgone : ((s.headTaken q rest).vacated q .detached).roleGone (some role) =
      ((s.roleGone (some role)).vacated q .detached).headTaken q rest := by
    rw [State.vacated_headTaken]
    simp only [State.headTaken, State.vacated, State.modPort, State.roleGone_mapPorts]
  have hcloses : (some role == some .call && (s.headTaken q rest).anyLegActive) = s.vacancyCloses role := by
    rw [State.anyLegActive_headTaken]
    rfl
  rw [State.takeLeave, (hj.headTaken rest).role, takeVacancy, ← State.vacated, ← State.roleGone, hgone, hcloses,
    takeHoldChange_headTaken, takeHoldChange_vacated hdetached, State.raiseIf_headTaken, State.raiseIf_vacated hdetached,
    State.raisePortsOthers_headTaken, State.raisePortsOthers_vacated]

/-- The notices of a LEAVE beside those of MA: PORTS, and LEGS when a leg is closed (R125, R155). -/
def State.leaveNotices (s : State) (role : Role) : CategorySet :=
  Category.ports.bit ||| onlyIf (s.vacancyCloses role) .legs

/-- The state that the LEAVE of a role leaves (R155). -/
def State.left (s : State) (q : PortId) (role : Role) (rest : List RequestFrame) : State :=
  (((holdEvent s (s.roleGone (some role))).answered q rest ⟨.done, 0x02, []⟩).noticed (s.leaveNotices role)).vacated q
    .detached

/-- The turn of LEAVE from a joined port (R151, R155). -/
theorem exec_leave_atTurn {s : State} {q : PortId} {role : Role} {rest : List RequestFrame} (hj : JoinedAs s q role)
    (h : AtTurn s q (goodFrame 0x02 []) rest) : exec (.leave q) s = .next (s.left q role rest) := by
  have ho : requestLeave q (goodFrame 0x02 []) (s.headTaken q rest) =
      answerDone [] ((s.headTaken q rest).takeLeave q) := rfl
  rw [State.takeLeave_headTaken hj] at ho
  rw [exec_leave, h.takeTurn_ok hj (row_leave []) ho, State.settle_answered, State.settle_vacated_answered,
    State.settle_raise, State.settle_raiseIf, State.noticed_noticed, ← State.noticed_answered]
  rfl

section
variable (s : State) (q : PortId) (role : Role) (rest : List RequestFrame) (p : PodId) (m : LegId)

theorem State.holds_left : ((s.left q role rest).pod p).holds = s.holdsWithoutRole role p := by
  simp [State.left, State.pod_roleGone]

theorem State.leg_left : (s.left q role rest).leg m = (s.roleGone (some role)).leg m := by simp [State.left]

theorem State.legs_left : (s.left q role rest).legs = (s.roleGone (some role)).legs :=
  State.legs_ext (s.leg_left q role rest)

theorem State.privacy_left : (s.left q role rest).privacy = (s.roleGone (some role)).privacy := by simp [State.left]

theorem State.heldPods_left : heldPods s (s.left q role rest) := by
  rw [State.left, heldPods_vacated, heldPods_noticed]
  exact (HoldChange.roleGone s role).heldPods_answered q rest _ fun p => by rw [State.pod_roleGone]

theorem State.holdNotices_left :
    holdNotices s (s.left q role rest) = holdNotices s (holdEvent s (s.roleGone (some role))) := by
  rw [State.left, holdNotices_vacated, holdNotices_noticed, holdNotices_answered]

/-- A port after a LEAVE: the one that leaves has its reply and is DETACHED, and each other is told (R155, R158). -/
theorem State.port_left (k : PortId) (hs : s.settled) : (s.left q role rest).port k =
    if k = q then ((s.port q).answered rest ⟨.done, 0x02, []⟩).vacate .detached
    else (s.port k).noticed (s.leaveNotices role ||| holdNotices s (s.left q role rest)) := by
  rw [State.holdNotices_left, State.left, State.noticed_answered]
  by_cases hk : k = q
  · simp [hk, State.vacated, State.answered, State.noticed, (HoldChange.roleGone s role).port_eq hs, Port.noticed_noticed,
      Port.vacate_noticed_answered]
  · simp [hk, State.vacated, State.answered, State.noticed, (HoldChange.roleGone s role).port_eq hs, Port.noticed_noticed]

/-- The talker list after a LEAVE (R21). -/
theorem State.talkers_left : (s.left q role rest).talkers = talkersLeft s (s.left q role rest) := by
  rw [State.left, talkersLeft_vacated, talkersLeft_noticed, talkersLeft_answered, ← (HoldChange.roleGone s role).talkers_eq]
  simp

/-- After MA has taken the vacancy of the role, a LEAVE has changed pods, ports and the talker list alone beside it. -/
theorem State.left_eq : s.left q role rest = { s.roleGone (some role) with
    pods := (s.left q role rest).pods, talkers := (s.left q role rest).talkers, ports := (s.left q role rest).ports } := by
  simp only [State.left, State.vacated, State.noticed, State.answered, State.modPort, State.mapPorts]
  rw [holdEvent_eq]

/-- What a LEAVE leaves as it stands. -/
theorem State.left_frame :
    let t := s.left q role rest
    t = { s with pods := t.pods, legs := t.legs, privacy := t.privacy, talkers := talkersLeft s t, ports := t.ports } := by
  intro t
  rw [s.legs_left q role rest, s.privacy_left q role rest, ← s.talkers_left q role rest]
  exact (s.left_eq q role rest).trans (congrArg (fun u : State => { u with
    pods := t.pods, talkers := t.talkers, ports := t.ports }) (RoomChange.roleGone s (some role)))

end

end Sys2Proof.Machine

open Sys2Proof Sys2Proof.Machine

/-- Settles O13: the turn refused LENGTH, and the turn of LEAVE, which is an event at MA after which the port is DETACHED. -/
theorem leaveDropsTheRole : Obligations.LeaveDropsTheRole := by
  unfold Obligations.LeaveDropsTheRole
  refine ⟨fun s q role operands rest hlength hturn hj => ?_, fun s q role rest hturn hj => ?_⟩
  · rw [exec_leave, hturn.takeTurn_refused hj (row_leave operands) (requestLeave_length hlength)]
    rfl
  · refine ⟨_, exec_leave_atTurn hj hturn, s.holds_left q role rest, fun m => ?_, ?_, s.heldPods_left q role rest,
      fun k => ?_, s.left_frame q role rest⟩
    · rw [State.leg_left, State.leg_roleGone]
      rfl
    · rw [State.privacy_left, State.privacy_roleGone]
      rfl
    · rw [s.port_left q role rest k hturn.settled]
      rfl

end

section
/-! CLEAR_FAULTS (R169, R170): the sets it names, the fault records and counters it leaves, the latches it counts, and the request. -/

namespace Sys2Proof.Machine

/-! ### Scope sets and kind sets on the wire (R169) -/

/-- Of a scope set CLEAR_FAULTS keeps the bits 1 to 28. -/
theorem keeps_scopesNamed (word : Nat) : Keeps word (scopesNamed word) fun i => decide (1 ≤ i ∧ i ≤ 28) := by
  intro i
  cases i with
  | zero => simp [scopesNamed]
  | succ i =>
    simp only [scopesNamed, Nat.testBit_succ, Nat.mul_div_cancel_left _ Nat.two_pos, Nat.testBit_mod_two_pow]
    rw [Bool.and_comm]
    exact congrArg _ (decide_eq_decide.2 (by omega))

/-- What a CLEAR_FAULTS with these operands selects. -/
def faultsNamed (scopeSet : List Byte) (kindSet : Byte) : Selection :=
  ⟨scopesNamed (number scopeSet), kindSet.toNat % 128⟩

/-- Both sets are applied as asked when no bit of either was dropped. -/
theorem doneIf_faultsNamed (scopeSet : List Byte) (kindSet : Byte) :
    doneIf ((faultsNamed scopeSet kindSet).scopes == number scopeSet &&
        (faultsNamed scopeSet kindSet).kinds == kindSet.toNat) =
      if (faultsNamed scopeSet kindSet).scopes = number scopeSet ∧ kindSet.toNat < 128 then .done else .clamped := by
  have hkinds : kindSet.toNat % 128 = kindSet.toNat ↔ kindSet.toNat < 128 := Nat.mod_eq_iff_lt (by decide)
  exact if_congr (by simp [faultsNamed, hkinds]) rfl rfl

/-! ### One fault record (R170) -/

/-- A selected record loses a latch that stands without its condition, and no other record does. -/
theorem FaultRecord.latch_lost_clearIf (r : FaultRecord) (b : Bool) :
    (r.latch && !(r.clearIf b).latch) = (b && (r.latch && !r.condition)) := by
  obtain ⟨latch, condition⟩ := r
  revert b latch condition
  decide

/-- A selected record keeps a latch that stands with its condition. -/
theorem FaultRecord.latch_kept_clearIf (r : FaultRecord) (b : Bool) :
    (b && (r.clearIf b).latch) = (b && (r.latch && r.condition)) := by
  obtain ⟨latch, condition⟩ := r
  revert b latch condition
  decide

/-- A selected record that has just been reported absent is left clear. -/
theorem FaultRecord.clearIf_reported_absent (r : FaultRecord) (b : Bool) :
    (if b then r.report false else r).clearIf b = if b then ⟨false, false⟩ else r := by
  obtain ⟨latch, condition⟩ := r
  revert b latch condition
  decide

/-! ### What the two steps leave (R170) -/

/-- A pod record after step 1. -/
def Pod.countersZeroed (pod : Pod) (x : Selection) (p : PodId) : Pod := { pod with
  timeouts := if x.pod p 3 then 0 else pod.timeouts
  checkFailures := if x.pod p 3 then 0 else pod.checkFailures
  framingErrors := if x.pod p 3 then 0 else pod.framingErrors
  podErrors := if x.pod p 3 then pod.podErrors.report false else pod.podErrors }

/-- A pod record after step 2. -/
def Pod.recordsCleared (pod : Pod) (x : Selection) (p : PodId) : Pod := { pod with
  podLost := pod.podLost.clearIf (x.pod p 0)
  podClip := pod.podClip.clearIf (x.pod p 1)
  podLocal := pod.podLocal.clearIf (x.pod p 2)
  podErrors := pod.podErrors.clearIf (x.pod p 3) }

/-- A port record after step 2. -/
def Port.recordCleared (port : Port) (x : Selection) (k : PortId) : Port :=
  { port with portLost := port.portLost.clearIf (x.port k) }

/-- The state with the device's two fault records replaced. -/
def State.withDevice (s : State) (audioClock : FaultRecord) (storeTimeout : Bool) : State :=
  { s with audioClock := audioClock, storeTimeout := storeTimeout }

/-- The state after both steps of a CLEAR_FAULTS, before its notice and its reply. -/
def State.faultsCleared (s : State) (x : Selection) : State := (s.zeroCounters x).clearLatches x

section
variable (s : State) (x : Selection) (p : PodId) (k q : PortId) (rest : List RequestFrame) (a : FaultRecord) (b : Bool)

@[simp] theorem State.pod_withDevice : (s.withDevice a b).pod p = s.pod p := rfl
@[simp] theorem State.port_withDevice : (s.withDevice a b).port k = s.port k := rfl
@[simp] theorem State.audioClock_withDevice : (s.withDevice a b).audioClock = a := rfl
@[simp] theorem State.storeTimeout_withDevice : (s.withDevice a b).storeTimeout = b := rfl

theorem State.withDevice_headTaken :
    (s.headTaken q rest).withDevice a b = (s.withDevice a b).headTaken q rest := by
  simp only [State.headTaken, State.modPort, State.mapPorts, State.withDevice, State.port]

/-- Step 1, pod record by pod record. -/
theorem State.zeroCounters_eq : s.zeroCounters x = s.mapPods fun p pod => pod.countersZeroed x p := by
  have hpod (p : PodId) (pod : Pod) : (if x.pod p 3 then
      { pod with timeouts := 0, checkFailures := 0, framingErrors := 0, podErrors := pod.podErrors.report false }
      else pod) = pod.countersZeroed x p := by
    unfold Pod.countersZeroed
    cases x.pod p 3 <;> rfl
  simp only [State.zeroCounters, hpod]

/-- Step 2, record by record. -/
theorem State.clearLatches_eq : s.clearLatches x =
    ((s.mapPods fun p pod => pod.recordsCleared x p).withDevice
      (s.audioClock.clearIf (x.device 5)) (s.storeTimeout && !x.device 6)).mapPorts
      fun k port => port.recordCleared x k := by
  simp only [State.clearLatches, State.withDevice, State.mapPods, State.mapPorts, State.port, Pod.recordsCleared,
    Port.recordCleared]

@[simp] theorem State.pod_clearLatches : (s.clearLatches x).pod p = (s.pod p).recordsCleared x p := by
  simp [State.clearLatches_eq]
@[simp] theorem State.port_clearLatches : (s.clearLatches x).port k = (s.port k).recordCleared x k := by
  simp [State.clearLatches_eq]
@[simp] theorem State.audioClock_clearLatches : (s.clearLatches x).audioClock = s.audioClock.clearIf (x.device 5) := rfl
@[simp] theorem State.storeTimeout_clearLatches :
    (s.clearLatches x).storeTimeout = (s.storeTimeout && !x.device 6) := rfl

/-- A pod record after both steps. -/
theorem State.pod_faultsCleared : (s.faultsCleared x).pod p = { s.pod p with
    timeouts := if x.pod p 3 then 0 else (s.pod p).timeouts
    checkFailures := if x.pod p 3 then 0 else (s.pod p).checkFailures
    framingErrors := if x.pod p 3 then 0 else (s.pod p).framingErrors
    podLost := (s.pod p).podLost.clearIf (x.pod p 0)
    podClip := (s.pod p).podClip.clearIf (x.pod p 1)
    podLocal := (s.pod p).podLocal.clearIf (x.pod p 2)
    podErrors := if x.pod p 3 then ⟨false, false⟩ else (s.pod p).podErrors } := by
  rw [State.faultsCleared, State.zeroCounters_eq, State.pod_clearLatches, State.pod_mapPods]
  simp only [Pod.recordsCleared, Pod.countersZeroed, FaultRecord.clearIf_reported_absent]

theorem State.port_faultsCleared : (s.faultsCleared x).port k = (s.port k).recordCleared x k := by
  simp [State.faultsCleared, State.zeroCounters_eq]
theorem State.audioClock_faultsCleared : (s.faultsCleared x).audioClock = s.audioClock.clearIf (x.device 5) := by
  simp [State.faultsCleared, State.zeroCounters_eq]
theorem State.storeTimeout_faultsCleared : (s.faultsCleared x).storeTimeout = (s.storeTimeout && !x.device 6) := by
  simp [State.faultsCleared, State.zeroCounters_eq]

/-- The two steps change pods, the device's two fault records and the ports' PORT_LOST records alone. -/
theorem State.faultsCleared_eq : s.faultsCleared x =
    ((s.mapPods fun p _ => (s.faultsCleared x).pod p).withDevice
      (s.audioClock.clearIf (x.device 5)) (s.storeTimeout && !x.device 6)).mapPorts
      fun k port => port.recordCleared x k := by
  have hpods : (s.zeroCounters x).mapPods (fun p pod => pod.recordsCleared x p) =
      s.mapPods fun p _ => (s.faultsCleared x).pod p := by
    rw [State.zeroCounters_eq]
    simp only [State.faultsCleared, State.zeroCounters_eq, State.pod_clearLatches, State.mapPods, State.pod_mk]
  have haudio : (s.zeroCounters x).audioClock = s.audioClock := by simp [State.zeroCounters]
  have hstore : (s.zeroCounters x).storeTimeout = s.storeTimeout := by simp [State.zeroCounters]
  rw [← hpods, ← haudio, ← hstore]
  exact State.clearLatches_eq _ x

/-- Nothing that the end of an event recomputes rests on counters or fault records. -/
theorem State.settled_faultsCleared {s : State} (h : s.settled) : (s.faultsCleared x).settled := by
  have hports := ((State.settled_iff s).1 h).2
  rw [State.faultsCleared_eq]
  refine State.settled_mapPorts (State.settled_congr h (fun p => ?_) (by simp [State.withDevice])
    (by simp [State.withDevice]) (fun p => State.talks_congr p (by simp [State.withDevice]))
    fun p => State.gateOf_congr p (by simp [State.withDevice])) _ fun k => ?_
  · rw [State.pod_withDevice, State.pod_mapPods, State.pod_faultsCleared]
    rfl
  · rw [State.port_withDevice, State.port_mapPods]
    exact hports k

@[simp] theorem State.audioClock_headTaken : (s.headTaken q rest).audioClock = s.audioClock := by simp [State.headTaken]
@[simp] theorem State.storeTimeout_headTaken : (s.headTaken q rest).storeTimeout = s.storeTimeout := by
  simp [State.headTaken]

theorem State.zeroCounters_headTaken :
    (s.headTaken q rest).zeroCounters x = (s.zeroCounters x).headTaken q rest := s.mapPods_headTaken q rest _

theorem State.mapPorts_recordCleared_headTaken :
    ((s.headTaken q rest).mapPorts fun k port => port.recordCleared x k) =
      (s.mapPorts fun k port => port.recordCleared x k).headTaken q rest := by
  simp only [State.headTaken, State.modPort, State.mapPorts_mapPorts]
  refine State.mapPorts_congr fun k => ?_
  by_cases hk : k = q <;> simp [hk, Port.recordCleared]

/-- A request queue takes no part in what CLEAR_FAULTS does. -/
theorem State.faultsCleared_headTaken :
    (s.headTaken q rest).faultsCleared x = (s.faultsCleared x).headTaken q rest := by
  simp only [State.faultsCleared, State.zeroCounters_headTaken, State.clearLatches_eq, State.mapPods_headTaken,
    State.audioClock_headTaken, State.storeTimeout_headTaken, State.withDevice_headTaken,
    State.mapPorts_recordCleared_headTaken]

/-! ### The latches that a CLEAR_FAULTS counts (R170) -/

theorem countP_ite_singleton {α : Type} (f : α → Bool) (b : Bool) (r : α) :
    (if b then [r] else []).countP f = (b && f r).toNat := by
  cases b <;> cases h : f r <;> simp [h]

/-- The chosen members of a list whose images pass a test, counted member by member. -/
theorem countP_map_filter {α β : Type} (f : β → Bool) (choice : α → Bool) (g : α → β) (l : List α) :
    ((l.filter choice).map g).countP f = (l.map fun a => (choice a && f (g a)).toNat).sum := by
  induction l with
  | nil => rfl
  | cons a l ih =>
    rw [List.map_cons, List.sum_cons, ← ih]
    cases hchoice : choice a with
    | false => simp [hchoice]
    | true => cases hf : f (g a) <;> simp [hchoice, hf, Nat.add_comm]

/-- The selected records that pass a test, counted record by record. -/
theorem State.countP_selectedRecords (f : FaultRecord → Bool) : (s.selectedRecords x).countP f =
    (allPods.map fun p => (x.pod p 0 && f (s.pod p).podLost).toNat + (x.pod p 1 && f (s.pod p).podClip).toNat +
      (x.pod p 2 && f (s.pod p).podLocal).toNat + (x.pod p 3 && f (s.pod p).podErrors).toNat).sum +
    (allPorts.map fun k => (x.port k && f (s.port k).portLost).toNat).sum +
    (x.device 5 && f s.audioClock).toNat + (x.device 6 && f ⟨s.storeTimeout, false⟩).toNat := by
  simp only [State.selectedRecords, List.countP_append, List.countP_flatMap, countP_map_filter, countP_ite_singleton,
    Function.comp_def, List.map_cons, List.map_nil, List.sum_cons, List.sum_nil, Nat.add_zero, Nat.add_assoc]

/-- The latches that step 2 clears are those of the selected records without their condition. -/
theorem latchesCleared_clearLatches : latchesCleared s (s.clearLatches x) = clearedCount (s.selectedRecords x) := by
  have hstore : (s.storeTimeout && !(s.storeTimeout && !x.device 6)) = (x.device 6 && (s.storeTimeout && !false)) := by
    cases s.storeTimeout <;> cases x.device 6 <;> rfl
  simp only [clearedCount, State.countP_selectedRecords, latchesCleared, State.pod_clearLatches, Pod.recordsCleared,
    State.port_clearLatches, Port.recordCleared, State.audioClock_clearLatches, State.storeTimeout_clearLatches,
    FaultRecord.latch_lost_clearIf, hstore]

/-- The selected latches that step 2 leaves are those of the selected records with their condition. -/
theorem latchesNamed_clearLatches :
    latchesNamed (s.clearLatches x) x.scopes x.kinds = leftCount (s.selectedRecords x) := by
  have hstore : (x.device 6 && (s.storeTimeout && !x.device 6)) = (x.device 6 && (s.storeTimeout && false)) := by
    cases s.storeTimeout <;> cases x.device 6 <;> rfl
  have hpod (p : PodId) (kind : Nat) : (x.scopes.testBit (addressOf p) && x.kinds.testBit kind) = x.pod p kind := rfl
  have hport (k : PortId) : (x.scopes.testBit (25 + k.val) && x.kinds.testBit 4) = x.port k := rfl
  have hdevice (kind : Nat) : (x.scopes.testBit 28 && x.kinds.testBit kind) = x.device kind := rfl
  simp only [leftCount, State.countP_selectedRecords, latchesNamed, hpod, hport, hdevice, State.pod_clearLatches,
    Pod.recordsCleared, State.port_clearLatches, Port.recordCleared, State.audioClock_clearLatches,
    State.storeTimeout_clearLatches, FaultRecord.latch_kept_clearIf, hstore]

/-- Step 1 touches no latch, so a count of lost latches may begin before it. -/
theorem latchesCleared_zeroCounters (t : State) : latchesCleared (s.zeroCounters x) t = latchesCleared s t := by
  have herrors (p : PodId) : (if x.pod p 3 then (s.pod p).podErrors.report false else (s.pod p).podErrors).latch =
      (s.pod p).podErrors.latch := by
    cases x.pod p 3 <;> rfl
  simp only [State.zeroCounters_eq, latchesCleared, State.pod_mapPods, Pod.countersZeroed, herrors, State.port_mapPods,
    State.audioClock_mapPods, State.storeTimeout_mapPods]

/-- The latches that both steps clear. -/
theorem latchesCleared_faultsCleared :
    latchesCleared s (s.faultsCleared x) = clearedCount ((s.zeroCounters x).selectedRecords x) := by
  rw [← latchesCleared_clearLatches, latchesCleared_zeroCounters, State.faultsCleared]

/-- The selected latches that both steps leave. -/
theorem latchesNamed_faultsCleared :
    latchesNamed (s.faultsCleared x) x.scopes x.kinds = leftCount ((s.zeroCounters x).selectedRecords x) :=
  latchesNamed_clearLatches _ x

@[simp] theorem State.selectedRecords_headTaken :
    (s.headTaken q rest).selectedRecords x = s.selectedRecords x := by
  have hport (k : PortId) : ((s.headTaken q rest).port k).portLost = (s.port k).portLost := by
    by_cases hk : k = q <;> simp [State.headTaken, hk]
  simp only [State.selectedRecords, State.pod_headTaken, hport, State.audioClock_headTaken,
    State.storeTimeout_headTaken]

end

/-! ### Notices and replies around changes of fault records (R158, R170) -/

/-- A notice does not see a port's fault record, nor change it. -/
theorem Port.noticed_withPortLost (port : Port) (lost : FaultRecord) (cs : CategorySet) :
    Port.noticed { port with portLost := lost } cs = { port.noticed cs with portLost := lost } := by
  have hjoined : Port.joined { port with portLost := lost } = port.joined := rfl
  unfold Port.noticed
  rw [hjoined]
  split <;> rfl

theorem Port.portLost_noticed (port : Port) (cs : CategorySet) : (port.noticed cs).portLost = port.portLost := by
  unfold Port.noticed
  split <;> rfl

section
variable (s t : State) (x : Selection) (q k : PortId) (rest : List RequestFrame) (r : Reply) (cs : CategorySet)

@[simp] theorem State.portLost_noticed : ((s.noticed cs).port k).portLost = (s.port k).portLost := by
  simp [State.noticed, Port.portLost_noticed]
@[simp] theorem State.audioClock_noticed : (s.noticed cs).audioClock = s.audioClock := by simp [State.noticed]
@[simp] theorem State.storeTimeout_noticed : (s.noticed cs).storeTimeout = s.storeTimeout := by simp [State.noticed]

@[simp] theorem State.portLost_answered : ((s.answered q rest r).port k).portLost = (s.port k).portLost := by
  by_cases hk : k = q <;> simp [State.answered, hk, Port.answered]
@[simp] theorem State.audioClock_answered : (s.answered q rest r).audioClock = s.audioClock := by simp [State.answered]
@[simp] theorem State.storeTimeout_answered : (s.answered q rest r).storeTimeout = s.storeTimeout := by
  simp [State.answered]

@[simp] theorem latchesCleared_noticed : latchesCleared s (t.noticed cs) = latchesCleared s t := by
  simp [latchesCleared]
@[simp] theorem latchesCleared_answered : latchesCleared s (t.answered q rest r) = latchesCleared s t := by
  simp [latchesCleared]
@[simp] theorem latchesNamed_noticed (scopes kinds : Nat) :
    latchesNamed (t.noticed cs) scopes kinds = latchesNamed t scopes kinds := by
  simp [latchesNamed]
@[simp] theorem latchesNamed_answered (scopes kinds : Nat) :
    latchesNamed (t.answered q rest r) scopes kinds = latchesNamed t scopes kinds := by
  simp [latchesNamed]

/-- The ports' records after notices and a reply: these, with the PORT_LOST records that step 2 leaves. -/
theorem State.mapPorts_recordCleared_answered :
    ((s.mapPorts fun k port => port.recordCleared x k).noticed cs).answered q rest r =
      ((s.noticed cs).answered q rest r).mapPorts fun k port =>
        { port with portLost := (s.port k).portLost.clearIf (x.port k) } := by
  simp only [State.noticed, State.answered, State.modPort, State.mapPorts_mapPorts, Port.recordCleared,
    Port.noticed_withPortLost]
  refine State.mapPorts_congr fun k => ?_
  by_cases hk : k = q <;> simp [hk, Port.answered]

/-- What a CLEAR_FAULTS leaves as it stands. -/
theorem State.faultsCleared_frame :
    let t := ((s.faultsCleared x).noticed cs).answered q rest r
    t = { s with
      pods := t.pods, audioClock := t.audioClock, storeTimeout := t.storeTimeout
      ports := (((s.noticed cs).answered q rest r).mapPorts fun k port =>
        { port with portLost := (s.port k).portLost.clearIf (x.port k) }).ports } := by
  intro t
  have ht : t = (((((s.mapPods fun p _ => (s.faultsCleared x).pod p).withDevice (s.audioClock.clearIf (x.device 5))
      (s.storeTimeout && !x.device 6)).noticed cs).answered q rest r).mapPorts fun k port =>
        { port with portLost := (s.port k).portLost.clearIf (x.port k) }) := by
    simp only [t]
    rw [State.faultsCleared_eq, State.mapPorts_recordCleared_answered]
    simp
  rw [ht]
  simp only [State.noticed, State.answered, State.modPort, State.mapPorts, State.withDevice, State.mapPods, State.port]

end

/-! ### CLEAR_FAULTS (R169, R170) -/

theorem exec_clearFaults (q : PortId) (s : State) :
    exec (.clearFaults q) s = .next (takeTurn .clearFaults requestClearFaults q s) := rfl

theorem row_clearFaults (operands : List Byte) : (goodFrame 0x45 operands).row = .clearFaults := rfl

/-- CALL and ROOM may send a CLEAR_FAULTS (Table 9-3). -/
theorem JoinedAs.roleIn_callRoom {s : State} {q : PortId} {role : Role} (h : JoinedAs s q role) (hrole : role ≠ .view) :
    s.roleIn q [.call, .room] = true := by
  rw [h.roleIn]
  cases role with
  | call => rfl
  | room => rfl
  | view => exact absurd rfl hrole

/-- What a CLEAR_FAULTS answers: the applied sets, and how many latches it cleared and left. -/
def clearFaultsBytes (x : Selection) (cleared left : Nat) : List Byte :=
  bigEndian 4 x.scopes ++ [byteOf x.kinds, byteOf cleared, byteOf left]

/-- What CLEAR_FAULTS does once its checks are passed (R169, R170). -/
theorem requestClearFaults_ok {s : State} {q : PortId} {role : Role} {scopeSet : List Byte} {kindSet : Byte}
    (hj : JoinedAs s q role) (hrole : role ≠ .view) (hlength : scopeSet.length = 4) :
    let x := faultsNamed scopeSet kindSet
    let records := (s.zeroCounters x).selectedRecords x
    requestClearFaults q (goodFrame 0x45 (scopeSet ++ [kindSet])) s =
      answerApplied (x.scopes == number scopeSet && x.kinds == kindSet.toNat)
        (clearFaultsBytes x (clearedCount records) (leftCount records))
        ((s.faultsCleared x).raiseIf (decide (0 < clearedCount records + leftCount records)) .faults) := by
  have hscopes : (scopeSet ++ [kindSet]).take 4 = scopeSet := List.take_left' hlength
  have hkinds : (scopeSet ++ [kindSet]).drop 4 = [kindSet] := List.drop_left' hlength
  have hkind : number [kindSet] = kindSet.toNat := by simp [number]
  simp only [requestClearFaults, goodFrame, ensure, List.length_append, hlength, List.length_singleton,
    hj.roleIn_callRoom hrole, hscopes, hkinds, hkind, beq_self_eq_true, if_true]
  rfl

/-- The turn of CLEAR_FAULTS: both steps, FAULTS for a latch cleared or left, and the answer (R170). -/
theorem exec_clearFaults_atTurn {s : State} {q : PortId} {role : Role} {scopeSet : List Byte} {kindSet : Byte}
    {rest : List RequestFrame} (hj : JoinedAs s q role) (hrole : role ≠ .view) (hlength : scopeSet.length = 4)
    (h : AtTurn s q (goodFrame 0x45 (scopeSet ++ [kindSet])) rest) :
    let x := faultsNamed scopeSet kindSet
    let cleared := latchesCleared s (s.faultsCleared x)
    let left := latchesNamed (s.faultsCleared x) x.scopes x.kinds
    exec (.clearFaults q) s = .next (((s.faultsCleared x).noticed (onlyIf (decide (0 < cleared + left)) .faults)).answered
      q rest ⟨if x.scopes = number scopeSet ∧ kindSet.toNat < 128 then .done else .clamped, 0x45,
        clearFaultsBytes x cleared left⟩) := by
  intro x cleared left
  have ho := requestClearFaults_ok (kindSet := kindSet) (hj.headTaken rest) hrole hlength
  simp only [State.zeroCounters_headTaken, State.selectedRecords_headTaken, State.faultsCleared_headTaken,
    ← latchesCleared_faultsCleared, ← latchesNamed_faultsCleared] at ho
  rw [exec_clearFaults, h.takeTurn_applied hj (row_clearFaults _) (State.settled_faultsCleared _ h.settled) ho,
    doneIf_faultsNamed]
  rfl

end Sys2Proof.Machine

open Sys2Proof Sys2Proof.Machine

/-- Settles O34: the turn of CLEAR_FAULTS, which zeroes counters and then clears latches, record by record. -/
theorem clearFaultsClearsEndedFaults : Obligations.ClearFaultsClearsEndedFaults := by
  unfold Obligations.ClearFaultsClearsEndedFaults
  intro s q role scopeSet kindSet rest hj hrole hlength hturn
  refine ⟨_, keeps_scopesNamed _, _, exec_clearFaults_atTurn hj hrole hlength hturn, fun p => ?_, fun k => ?_, ?_, ?_, ?_⟩
  · rw [State.pod_answered, State.pod_noticed, State.pod_faultsCleared]
    rfl
  · rw [State.portLost_answered, State.portLost_noticed, State.port_faultsCleared]
    rfl
  · rw [State.audioClock_answered, State.audioClock_noticed, State.audioClock_faultsCleared]
    rfl
  · rw [State.storeTimeout_answered, State.storeTimeout_noticed, State.storeTimeout_faultsCleared]
    rfl
  · simp only [latchesCleared_answered, latchesCleared_noticed, latchesNamed_answered, latchesNamed_noticed]
    exact State.faultsCleared_frame ..

end

section
/-! STORE_READ and STORE_STATUS (R174): the turn of a request that changes nothing and answers DONE or CLAMPED, the bytes of the store that STORE_READ returns, and the standing of the store's operation that STORE_STATUS returns. -/

namespace Sys2Proof.Machine

/-! ### The turn of a request that changes nothing, DONE or CLAMPED (R151) -/

/-- `AtTurn.takeTurn_unchanged` for every answer of an executed request, a clamped one too. -/
theorem AtTurn.takeTurn_answered {s : State} {q : PortId} {f : RequestFrame} {rest : List RequestFrame}
    {row : RequestRow} {request : Request} {role : Role} {a : Answer} (h : AtTurn s q f rest) (hj : JoinedAs s q role)
    (hrow : f.row = row) (ho : request q f (s.headTaken q rest) = .ok (a, s.headTaken q rest)) :
    takeTurn row request q s = s.answered q rest ⟨a.status, f.code, a.payload⟩ := by
  rw [h.takeTurn_ok hj hrow ho, State.settle_answered, h.settled]

section
variable (s : State) (q : PortId) (rest : List RequestFrame)

@[simp] theorem State.byteAt_headTaken (a : Nat) : (s.headTaken q rest).byteAt a = s.byteAt a := by
  simp [State.headTaken, State.byteAt]
@[simp] theorem State.storeOp_headTaken : (s.headTaken q rest).storeOp = s.storeOp := by simp [State.headTaken]
@[simp] theorem State.lastResult_headTaken : (s.headTaken q rest).lastResult = s.lastResult := by
  simp [State.headTaken]
@[simp] theorem State.installer_headTaken : (s.headTaken q rest).installer = s.installer := by simp [State.headTaken]
@[simp] theorem State.commitMap_headTaken : (s.headTaken q rest).commitMap = s.commitMap := by simp [State.headTaken]

end

/-! ### STORE_READ (R174) -/

theorem exec_storeRead (q : PortId) (s : State) :
    exec (.storeRead q) s = .next (takeTurn .storeRead requestStoreRead q s) := rfl

theorem row_storeRead (operands : List Byte) : (goodFrame 0x50 operands).row = .storeRead := rfl

theorem requestStoreRead_length {s : State} {q : PortId} {operands : List Byte} (h : operands.length ≠ 3) :
    requestStoreRead q (goodFrame 0x50 operands) s = refuse .length := by
  simp [requestStoreRead, goodFrame, ensure, h]

/-- How many bytes a STORE_READ returns: the count, cut at address 1,023 (R174). -/
def bytesRead (address : List Byte) (count : Byte) : Nat := min count.toNat (1024 - number address)

/-- The bytes of the store that STORE_READ returns, after the address and their number (R174). -/
def State.storeReadBytes (s : State) (address : List Byte) (n : Nat) : List Byte :=
  address ++ [byteOf n] ++ (List.range n).map fun i => s.byteAt (number address + i)

@[simp] theorem State.storeReadBytes_headTaken (s : State) (q : PortId) (rest : List RequestFrame)
    (address : List Byte) (n : Nat) : (s.headTaken q rest).storeReadBytes address n = s.storeReadBytes address n := by
  simp only [State.storeReadBytes, State.byteAt_headTaken]

/-- A STORE_READ of three operands from a joined port comes to the check of its address and its count (R174). -/
theorem requestStoreRead_joined {s : State} {q : PortId} {role : Role} {address : List Byte} (count : Byte)
    (hj : JoinedAs s q role) (hlength : address.length = 2) :
    requestStoreRead q (goodFrame 0x50 (address ++ [count])) s =
      ensure (decide (number address < 1024) && decide (1 ≤ count.toNat) && decide (count.toNat ≤ 16)) .range
        (answerApplied (bytesRead address count == count.toNat)
          (s.storeReadBytes address (bytesRead address count)) s) := by
  have haddress : (address ++ [count]).take 2 = address := List.take_left' hlength
  have hcount : (address ++ [count]).drop 2 = [count] := List.drop_left' hlength
  have hnumber : number [count] = count.toNat := by simp [number]
  simp only [requestStoreRead, goodFrame, List.length_append, hlength, List.length_singleton, beq_self_eq_true,
    hj.roleIn_all, haddress, hcount, hnumber, Memory.readMany_eq]
  rfl

/-- The turn of a STORE_READ within the store: the bytes from the address on (R174). -/
theorem exec_storeRead_atTurn {s : State} {q : PortId} {role : Role} {address : List Byte} {count : Byte}
    {rest : List RequestFrame} (hj : JoinedAs s q role) (hlength : address.length = 2)
    (h : AtTurn s q (goodFrame 0x50 (address ++ [count])) rest) (haddress : number address < 1024)
    (hlow : 1 ≤ count.toNat) (hhigh : count.toNat ≤ 16) :
    exec (.storeRead q) s = .next (s.answered q rest
      ⟨if bytesRead address count = count.toNat then .done else .clamped, 0x50,
        s.storeReadBytes address (bytesRead address count)⟩) := by
  have ho := requestStoreRead_joined count (hj.headTaken rest) hlength
  simp only [haddress, hlow, hhigh, decide_true, Bool.and_true, ensure, if_true, State.storeReadBytes_headTaken] at ho
  rw [exec_storeRead, h.takeTurn_answered hj (row_storeRead _) ho, doneIf_beq]
  rfl

/-- The turn of a STORE_READ whose address is past the store or whose count is not 1 to 16: refused RANGE (R174). -/
theorem exec_storeRead_range {s : State} {q : PortId} {role : Role} {address : List Byte} {count : Byte}
    {rest : List RequestFrame} (hj : JoinedAs s q role) (hlength : address.length = 2)
    (h : AtTurn s q (goodFrame 0x50 (address ++ [count])) rest)
    (hrange : 1024 ≤ number address ∨ count = 0 ∨ 16 < count.toNat) :
    exec (.storeRead q) s = .next (s.answered q rest ⟨.refused .range, 0x50, []⟩) := by
  have hchecks :
      (decide (number address < 1024) && decide (1 ≤ count.toNat) && decide (count.toNat ≤ 16)) = false := by
    rcases hrange with haddress | rfl | hhigh
    · simp [haddress]
    · simp
    · simp [hhigh]
  have ho := requestStoreRead_joined count (hj.headTaken rest) hlength
  rw [hchecks] at ho
  rw [exec_storeRead, h.takeTurn_refused hj (row_storeRead _) ho]
  rfl

/-! ### STORE_STATUS (R174) -/

theorem exec_storeStatus (q : PortId) (s : State) :
    exec (.storeStatus q) s = .next (takeTurn .storeStatus requestStoreStatus q s) := rfl

theorem row_storeStatus (operands : List Byte) : (goodFrame 0x54 operands).row = .storeStatus := rfl

theorem requestStoreStatus_length {s : State} {q : PortId} {operands : List Byte} (h : operands ≠ []) :
    requestStoreStatus q (goodFrame 0x54 operands) s = refuse .length := by
  simp [requestStoreStatus, goodFrame, ensure, h]

theorem StoreResult.code_eq (r : StoreResult) : r.code = if r = .ok then 0 else 1 := by
  cases r <;> rfl

theorem byteOf_toNat_bool (b : Bool) : byteOf b.toNat = if b then 1 else 0 := by
  cases b <;> rfl

/-- What STORE_STATUS returns: the operation and its section, the last result, the installer mode and the commit map (R174). -/
def State.storeStatusBytes (s : State) : List Byte :=
  [s.storeOp.code, s.storeOp.sectionByte, if s.lastResult = .ok then 0 else 1, if s.installer then 1 else 0, s.commitMap]

@[simp] theorem State.storeStatusBytes_headTaken (s : State) (q : PortId) (rest : List RequestFrame) :
    (s.headTaken q rest).storeStatusBytes = s.storeStatusBytes := by
  simp [State.storeStatusBytes]

/-- What STORE_STATUS does once its checks are passed (R174). -/
theorem requestStoreStatus_ok {s : State} {q : PortId} {role : Role} (hj : JoinedAs s q role) :
    requestStoreStatus q (goodFrame 0x54 []) s = answerDone s.storeStatusBytes s := by
  simp only [requestStoreStatus, goodFrame, ensure, List.isEmpty_nil, hj.roleIn_all, if_true, StoreResult.code_eq,
    byteOf_toNat_bool]
  rfl

/-- The turn of STORE_STATUS: the standing of the store's operation, and nothing changes (R174). -/
theorem exec_storeStatus_atTurn {s : State} {q : PortId} {role : Role} {rest : List RequestFrame}
    (hj : JoinedAs s q role) (h : AtTurn s q (goodFrame 0x54 []) rest) :
    exec (.storeStatus q) s = .next (s.answered q rest ⟨.done, 0x54, s.storeStatusBytes⟩) := by
  have ho := requestStoreStatus_ok (hj.headTaken rest)
  rw [State.storeStatusBytes_headTaken] at ho
  rw [exec_storeStatus, h.takeTurn_unchanged hj (row_storeStatus _) ho]
  rfl

end Sys2Proof.Machine

open Sys2Proof Sys2Proof.Machine

/-- Settles O35: the turns of STORE_READ, within the store and out of it, and of STORE_STATUS, and those refused LENGTH. -/
theorem storeReads : Obligations.StoreReads := by
  unfold Obligations.StoreReads
  intro s q role rest hj
  refine ⟨fun address count hlength hturn => ⟨exec_storeRead_atTurn hj hlength hturn,
    exec_storeRead_range hj hlength hturn⟩, fun operands => ⟨fun hlength hturn => ?_, fun hlength hturn => ?_⟩,
    fun hturn => ⟨_, _, exec_storeStatus_atTurn hj hturn, ?_⟩⟩
  · rw [exec_storeRead, hturn.takeTurn_refused hj (row_storeRead operands) (requestStoreRead_length hlength)]
    rfl
  · rw [exec_storeStatus, hturn.takeTurn_refused hj (row_storeStatus operands) (requestStoreStatus_length hlength)]
    rfl
  · cases s.storeOp <;> exact ⟨rfl, rfl⟩

end

section
/-! The laws of Safety.lean record by record, and what it is for a change of state to keep them all. -/

namespace Sys2Proof.Machine

/-! ### The laws of one record -/

/-- Law 1 and the ranges of Table 1-1 for the pod of one address (R2). -/
def Pod.tabled (pod : Pod) (p : PodId) : Prop :=
  pod.cls ≤ maxClass ∧ PodSet.has pod.excl p = true ∧ pod.trim ≤ maxTrim ∧ pod.volume ≤ unity ∧
  (pod.chair = true → pod.listed = true)

/-- Law 5 and the pod link's records for one pod (R7, R32, R37, R129, R138). -/
def Pod.linked (pod : Pod) : Prop :=
  (pod.listed = false → pod.cleared) ∧
  (pod.listed = true → pod.link ≠ .unlisted ∧ (pod.holds.link = true ↔ (pod.link = .seeking ∨ pod.link = .lost))) ∧
  (pod.baselines.isSome = true ↔ pod.reachable) ∧
  (0 < pod.shortDue ∨ 0 < pod.longDue → pod.reachable) ∧
  (∀ b ∈ pod.baselines, b.short ≤ 15 ∧ b.long ≤ 15) ∧ pod.shortDue ≤ 15 ∧ pod.longDue ≤ 15 ∧
  pod.misses ≤ 8 ∧ ((pod.link = .seeking ∨ pod.link = .doubtful) → pod.misses ≤ 7)

/-- Law 13 and the ranges of the gains, the level and the floor of one pod (R44, R62, R88, R93). -/
def Pod.gained (pod : Pod) : Prop :=
  pod.muteEnv.atMost unity ∧ pod.gateEnv.atMost unity ∧ pod.contrib.now ≤ pod.trim ∧ pod.contrib.atMost maxTrim ∧
  pod.contribEnd ≤ maxTrim ∧ pod.volumeGain.atMost unity ∧ pod.level ≤ maxLevel ∧ pod.floor ≤ maxLevel

/-- A pod as a soft start leaves it at GE and ME (R113). -/
def Pod.started (pod : Pod) : Prop :=
  pod.muteEnv = Ramp.flat 0 ∧ pod.gateEnv = Ramp.flat 0 ∧ pod.contrib = Ramp.flat 0 ∧ pod.contribEnd = 0 ∧
  pod.level = 0 ∧ pod.floor = 0 ∧ pod.mutedTalk = false

/-- Table 10-1 for the four records of one pod (R164, R165). -/
def Pod.faulted (pod : Pod) : Prop :=
  (pod.podLost.sound ∧ pod.podClip.sound ∧ pod.podLocal.sound ∧ pod.podErrors.sound) ∧
  (pod.podLost.condition = true ↔ pod.link = .lost) ∧
  (pod.podClip.condition = true → pod.listed = true) ∧
  pod.podLocal.condition = pod.localFault ∧
  (pod.podErrors.condition = true ↔ (pod.timeouts = 255 ∨ pod.checkFailures = 255 ∨ pod.framingErrors = 255)) ∧
  pod.timeouts ≤ 255 ∧ pod.checkFailures ≤ 255 ∧ pod.framingErrors ≤ 255

/-- A leg whose envelopes and receive factor stand at 0 (R51, R113). -/
def Leg.quiet (leg : Leg) : Prop :=
  leg.receiveEnv = Ramp.flat 0 ∧ leg.sendEnv = Ramp.flat 0 ∧ leg.receiveFactor = Ramp.flat 0

/-- The ranges of the gains of one leg (R44, R88). -/
def Leg.gained (leg : Leg) : Prop :=
  leg.receiveEnv.atMost unity ∧ leg.sendEnv.atMost unity ∧ leg.receiveFactor.atMost maxTrim

/-- Laws 8 and 10 and Table 9-2 for one port (R150, R151, R153, R159). -/
def Port.fits (port : Port) : Prop :=
  (port.role.isSome = port.joined ∧ port.timer.isSome = port.joined) ∧
  (port.joined = false → port.mask = 0 ∧ port.pendingSet = 0 ∧ port.lastPhase = 1) ∧
  port.lastPhase ≤ 1 ∧ port.pendingSet &&& port.mask = port.pendingSet ∧
  port.requests.length ≤ 2 ∧ port.replies.length ≤ 4

/-- Table 10-1 for the PORT_LOST record of one port (R164, R165). -/
def Port.lostFits (port : Port) : Prop :=
  port.portLost.sound ∧ (port.portLost.condition = true ↔ port.state = .absent)

/-- The slot in progress awaits no reply of an unlisted pod (R7, R145). -/
def State.slotSound (s : State) : Prop :=
  ∀ x ∈ s.slot, x.judged = false → x.discard = false → (s.pod x.pod).listed = true

theorem State.tablesSound_iff (s : State) : s.tablesSound ↔ (∀ p, (s.pod p).tabled p) ∧ (∀ m, (s.leg m).gain ≤ maxTrim) ∧
    ∀ x ∈ loadOrder, x.range.1 ≤ s.tuning.get x ∧ s.tuning.get x ≤ x.range.2 := Iff.rfl

theorem State.linkSound_iff (s : State) : s.linkSound ↔ (∀ p, (s.pod p).linked) ∧ s.slotSound := Iff.rfl

theorem State.legsSound_iff (s : State) : s.legsSound ↔ ∀ m, (s.leg m).state = .closed → (s.leg m).quiet := Iff.rfl

theorem State.gainsSound_iff (s : State) : s.gainsSound ↔ (∀ p, (s.pod p).gained) ∧ (∀ m, (s.leg m).gained) ∧
    s.nomGain.atMost unity ∧ 23170 ≤ s.nomGain.prev ∧ 23170 ≤ s.nomGain.now ∧ s.reinforceGain.atMost unity := Iff.rfl

theorem State.portsSound_iff (s : State) : s.portsSound ↔ (∀ q, (s.port q).fits) ∧
    ∀ q k, q ≠ k → (s.port q).role = (s.port k).role → (s.port q).role = none ∨ (s.port q).role = some .view := Iff.rfl

theorem State.startSound_iff (s : State) : s.startSound ↔ (s.sync = .starting →
    s.talkers = [] ∧ s.nomGain = Ramp.flat unity ∧ (∀ p, (s.pod p).started) ∧ ∀ m, (s.leg m).quiet) := Iff.rfl

theorem State.faultsSound_iff (s : State) : s.faultsSound ↔ (∀ p, (s.pod p).faulted) ∧ (∀ q, (s.port q).lostFits) ∧
    s.audioClock.sound ∧ (s.audioClock.condition = true ↔ s.sync = .missing) := Iff.rfl

/-- Every law and relation of Safety.lean but that nothing is left to recompute. -/
structure State.lawful (s : State) : Prop where
  tables : s.tablesSound
  link : s.linkSound
  ports : s.portsSound
  talkers : s.talkersSound
  legs : s.legsSound
  gains : s.gainsSound
  lanes : s.lanesSound
  start : s.startSound
  store : s.storeSound
  faults : s.faultsSound

theorem State.sound.lawful {s : State} (h : s.sound) : s.lawful :=
  ⟨h.tables, h.link, h.ports, h.talkers, h.legs, h.gains, h.lanes, h.start, h.store, h.faults⟩

theorem State.lawful.sound {s : State} (h : s.lawful) (hs : s.settled) : s.sound :=
  ⟨hs, h.tables, h.link, h.ports, h.talkers, h.legs, h.gains, h.lanes, h.start, h.store, h.faults⟩

/-- A change of the parameters' range is seen by this much of them alone. -/
theorem State.tablesSound.range {s : State} (h : s.tablesSound) (x : Param) :
    x.range.1 ≤ s.tuning.get x ∧ s.tuning.get x ≤ x.range.2 :=
  h.2.2 x (by cases x <;> decide)

/-! ### Changes that keep the laws -/

/-- A change of state keeps the laws: each from as much as it needs, and the mute envelopes as law 7 asks. `frames` tells the events of AL, GE and ME, which leave the privacy record as it is, from the others, which raise no mute envelope. -/
structure KeepsLaws (frames : Bool) (s t : State) : Prop where
  tables : s.tablesSound → t.tablesSound
  legs : s.legsSound → t.legsSound
  gains : s.tablesSound → s.gainsSound → t.gainsSound
  ports : s.portsSound → t.portsSound
  store : s.storeSound → t.storeSound
  link : s.lawful → t.linkSound
  talkers : s.lawful → t.talkersSound
  lanes : s.lawful → t.lanesSound
  start : s.lawful → t.startSound
  faults : s.lawful → t.faultsSound
  installer : t.installer = s.installer
  commits : s.storeSound → s.installer = false → ∀ x, s.commitMap.getLsbD x = true → t.commitMap.getLsbD x = true
  calm : frames = false → ∀ p, (t.pod p).muteEnv.now ≤ (s.pod p).muteEnv.now
  privacy : frames = true → t.privacy = s.privacy ∧
    (t.privacy.isSome = true → ∀ p, (t.pod p).muteEnv.now ≤ (s.pod p).muteEnv.now)

namespace KeepsLaws

variable {frames : Bool} {s t u : State}

theorem lawful (h : KeepsLaws frames s t) (hs : s.lawful) : t.lawful :=
  ⟨h.tables hs.tables, h.link hs, h.ports hs.ports, h.talkers hs, h.legs hs.legs, h.gains hs.tables hs.gains, h.lanes hs,
    h.start hs, h.store hs.store, h.faults hs⟩

theorem refl (frames : Bool) (s : State) : KeepsLaws frames s s where
  tables := id
  legs := id
  gains := fun _ => id
  ports := id
  store := id
  link := State.lawful.link
  talkers := State.lawful.talkers
  lanes := State.lawful.lanes
  start := State.lawful.start
  faults := State.lawful.faults
  installer := rfl
  commits := fun _ _ _ => id
  calm := fun _ _ => le_rfl
  privacy := fun _ => ⟨rfl, fun _ _ => le_rfl⟩

theorem trans (hst : KeepsLaws frames s t) (htu : KeepsLaws frames t u) : KeepsLaws frames s u where
  tables := htu.tables ∘ hst.tables
  legs := htu.legs ∘ hst.legs
  gains := fun ht hg => htu.gains (hst.tables ht) (hst.gains ht hg)
  ports := htu.ports ∘ hst.ports
  store := htu.store ∘ hst.store
  link := htu.link ∘ hst.lawful
  talkers := htu.talkers ∘ hst.lawful
  lanes := htu.lanes ∘ hst.lawful
  start := htu.start ∘ hst.lawful
  faults := htu.faults ∘ hst.lawful
  installer := htu.installer.trans hst.installer
  commits := fun hs hi x hx => htu.commits (hst.store hs) (hst.installer.trans hi) x (hst.commits hs hi x hx)
  calm := fun hf p => (htu.calm hf p).trans (hst.calm hf p)
  privacy := fun hf => ⟨(htu.privacy hf).1.trans (hst.privacy hf).1, fun hu p =>
    ((htu.privacy hf).2 hu p).trans ((hst.privacy hf).2 ((htu.privacy hf).1 ▸ hu) p)⟩

end KeepsLaws

/-! ### Changes of one record -/

/-- A pod record is replaced by one that keeps its laws, where the tables and the pod link give `known`. -/
structure Pod.Kept (known : Prop) (p : PodId) (a b : Pod) : Prop where
  tabled : a.tabled p → b.tabled p
  gained : a.gained → b.gained
  linked : known → a.linked → b.linked
  faulted : known → a.linked → a.faulted → b.faulted
  started : a.started → b.started
  env : b.muteEnv.now ≤ a.muteEnv.now

/-- A leg record is replaced by one that keeps its laws. -/
structure Leg.Kept (a b : Leg) : Prop where
  gain : a.gain ≤ maxTrim → b.gain ≤ maxTrim
  closed : (a.state = .closed → a.quiet) → b.state = .closed → b.quiet
  gained : a.gained → b.gained
  quiet : a.quiet → b.quiet

/-- A port record is replaced by one that keeps its laws and claims no role. -/
structure Port.Kept (a b : Port) : Prop where
  fits : a.fits → b.fits
  role : b.role = a.role ∨ b.role = none
  lost : a.lostFits → b.lostFits

theorem Pod.Kept.refl {known : Prop} (p : PodId) (a : Pod) : a.Kept known p a := ⟨id, id, fun _ => id, fun _ _ => id, id, le_rfl⟩

theorem Leg.Kept.refl (a : Leg) : a.Kept a := ⟨id, id, id, id⟩

theorem Port.Kept.refl (a : Port) : a.Kept a := ⟨id, .inl rfl, id⟩

theorem Port.Kept.trans {a b c : Port} (hab : a.Kept b) (hbc : b.Kept c) : a.Kept c where
  fits := hbc.fits ∘ hab.fits
  role := by
    rcases hbc.role with h | h
    · rw [h]; exact hab.role
    · exact .inr h
  lost := hbc.lost ∘ hab.lost

/-- A change of the records, the privacy record, the talker list and the slot alone. -/
def RoomOnly (s t : State) : Prop := t = { s with
  pods := t.pods, legs := t.legs, ports := t.ports, privacy := t.privacy, talkers := t.talkers, slot := t.slot
  lastPolled := t.lastPolled }

theorem State.portsSound.of_kept {s t : State} (h : s.portsSound) (ports : ∀ q, (s.port q).Kept (t.port q)) :
    t.portsSound := by
  rw [State.portsSound_iff] at h ⊢
  obtain ⟨hfits, hroles⟩ := h
  refine ⟨fun q => (ports q).fits (hfits q), fun q k hne heq => ?_⟩
  rcases (ports q).role with hq | hq
  · rcases (ports k).role with hk | hk
    · rw [hq] at heq ⊢
      exact hroles q k hne (heq.trans hk)
    · exact .inl (heq.trans hk)
  · exact .inl hq

/-- A change of records that keeps the laws of each, with the talker list and the slot, keeps all laws. -/
theorem KeepsLaws.of_records {frames : Bool} {s t : State} {known : Prop} (h : RoomOnly s t)
    (hknown : s.tablesSound → s.linkSound → known)
    (pods : ∀ p, (s.pod p).Kept known p (t.pod p)) (legs : ∀ m, (s.leg m).Kept (t.leg m))
    (ports : ∀ q, (s.port q).Kept (t.port q)) (talkers : s.lawful → t.talkersSound) (silent : s.talkers = [] → t.talkers = [])
    (slot : s.linkSound → t.slotSound) (privacy : frames = true → t.privacy = s.privacy) : KeepsLaws frames s t := by
  have htuning : t.tuning = s.tuning := by rw [h]
  have hnom : t.nomGain = s.nomGain := by rw [h]
  have hreinforce : t.reinforceGain = s.reinforceGain := by rw [h]
  have hsync : t.sync = s.sync := by rw [h]
  have hclock : t.audioClock = s.audioClock := by rw [h]
  refine ⟨?_, ?_, ?_, fun hs => hs.of_kept ports, ?_, ?_, talkers, ?_, ?_, ?_, by rw [h], ?_, ?_, ?_⟩
  · rw [State.tablesSound_iff, State.tablesSound_iff, htuning]
    exact fun ⟨hp, hm, hx⟩ => ⟨fun p => (pods p).tabled (hp p), fun m => (legs m).gain (hm m), hx⟩
  · exact fun hs m => (legs m).closed (hs m)
  · rw [State.gainsSound_iff, State.gainsSound_iff, hnom, hreinforce]
    exact fun _ ⟨hp, hm, hrest⟩ => ⟨fun p => (pods p).gained (hp p), fun m => (legs m).gained (hm m), hrest⟩
  · rw [h]; exact id
  · exact fun hs => ⟨fun p => (pods p).linked (hknown hs.tables hs.link) (hs.link.1 p), slot hs.link⟩
  · rw [h]; exact State.lawful.lanes
  · intro hs
    rw [State.startSound_iff, hsync, hnom]
    intro hstarting
    obtain ⟨ht, hn, hp, hm⟩ := (State.startSound_iff s).1 hs.start hstarting
    exact ⟨silent ht, hn, fun p => (pods p).started (hp p), fun m => (legs m).quiet (hm m)⟩
  · intro hs
    rw [State.faultsSound_iff, hclock, hsync]
    obtain ⟨hp, hq, hrest⟩ := (State.faultsSound_iff s).1 hs.faults
    exact ⟨fun p => (pods p).faulted (hknown hs.tables hs.link) (hs.link.1 p) (hp p), fun q => (ports q).lost (hq q), hrest⟩
  · rw [h]; exact fun _ _ _ => id
  · exact fun _ p => (pods p).env
  · exact fun hf => ⟨privacy hf, fun _ p => (pods p).env⟩

/-- A change of port records alone that keeps the laws of each keeps all laws. -/
theorem KeepsLaws.of_ports {s t : State} (frames : Bool) (h : t = { s with ports := t.ports })
    (ports : ∀ q, (s.port q).Kept (t.port q)) : KeepsLaws frames s t := by
  have hpod : ∀ p, t.pod p = s.pod p := fun p => by rw [h]; rfl
  have hleg : ∀ m, t.leg m = s.leg m := fun m => by rw [h]; rfl
  refine KeepsLaws.of_records (known := True) ?_ (fun _ _ => trivial) (fun p => ?_) (fun m => ?_) ports
    (fun hs => ?_) ?_ (fun hs => ?_) (fun _ => ?_)
  · unfold RoomOnly; rw [h]
  · rw [hpod]; exact Pod.Kept.refl p _
  · rw [hleg]; exact Leg.Kept.refl _
  · rw [h]; exact hs.talkers
  · rw [h]; exact id
  · rw [h]; exact hs.2
  · rw [h]

/-! ### Ports -/

/-- A notice keeps the laws of a port (R158). -/
theorem Port.Kept.notify (port : Port) (c : Category) : port.Kept (port.notify c) := by
  rw [Port.notify_eq]
  refine ⟨fun ⟨hrole, hgone, hphase, hmask, hqueues⟩ => ⟨hrole, fun hj => ?_, hphase, ?_, hqueues⟩, .inl rfl, id⟩
  · have hj' : port.joined = false := hj
    simp only [hj']
    exact hgone hj'
  · split
    · have hself : port.mask &&& c.bit &&& port.mask = port.mask &&& c.bit := by
        rw [BitVec.and_comm port.mask c.bit, BitVec.and_assoc, BitVec.and_self]
      simp only [BitVec.and_or_distrib_right, hmask, hself]
    · exact hmask

theorem Port.Kept.notifyIf (port : Port) (b : Bool) (c : Category) : port.Kept (if b then port.notify c else port) := by
  cases b
  · exact Port.Kept.refl port
  · exact Port.Kept.notify port c

theorem KeepsLaws.raiseIf (frames : Bool) (s : State) (b : Bool) (c : Category) : KeepsLaws frames s (s.raiseIf b c) :=
  KeepsLaws.of_ports frames (s.raiseIf_eq b c) fun q => by
    rw [State.port_raiseIf]; exact Port.Kept.notifyIf _ _ _

theorem KeepsLaws.raise (frames : Bool) (s : State) (c : Category) : KeepsLaws frames s (s.raise c) := KeepsLaws.raiseIf frames s true c

theorem KeepsLaws.raisePortsOthers (frames : Bool) (s : State) (q : PortId) : KeepsLaws frames s (s.raisePortsOthers q) :=
  KeepsLaws.of_ports frames (by simp only [State.raisePortsOthers, State.mapPorts]) fun k => by
    rw [State.port_raisePortsOthers]
    split
    · exact Port.Kept.refl _
    · exact Port.Kept.notify _ _

/-- A change of one port's record that keeps its laws. -/
theorem KeepsLaws.modPort (frames : Bool) (s : State) (q : PortId) {f : Port → Port} (h : (s.port q).Kept (f (s.port q))) :
    KeepsLaws frames s (s.modPort q f) :=
  KeepsLaws.of_ports frames (by simp only [State.modPort, State.mapPorts]) fun k => by
    rw [State.port_modPort]
    split
    · rename_i hk; subst hk; exact h
    · exact Port.Kept.refl _

/-- The fields that the end of an event recomputes take no part in the laws. -/
theorem KeepsLaws.settle (frames : Bool) (s : State) : KeepsLaws frames s s.settle := by
  refine KeepsLaws.of_records (known := True) ?_ (fun _ _ => trivial) (fun p => ?_) (fun m => ?_) (fun q => ?_) (fun hs => ?_) ?_
    (fun hs => ?_) (fun _ => by simp)
  · unfold RoomOnly; simp only [State.settle, State.mapPods, State.mapPorts]
  · rw [State.pod_settle]; exact ⟨id, id, fun _ => id, fun _ _ => id, id, le_rfl⟩
  · rw [State.leg_settle]; exact Leg.Kept.refl _
  · rw [State.port_settle]; exact ⟨id, .inl rfl, id⟩
  · simpa only [State.talkersSound, State.talkers_settle, State.tuning_settle, State.unmuted_settle, State.pod_settle]
      using hs.talkers
  · simp
  · simpa [State.slotSound] using hs.2

end Sys2Proof.Machine
end

section
/-! Hold changes, requests and presses keep the laws. -/

namespace Sys2Proof.Machine

/-! ### The talker list (law 3) -/

/-- A list that has lost entries keeps law 3 when those left are of unmuted channels with their pods' classes. -/
theorem State.talkersSound.of_sublist {s t : State} (h : s.talkersSound) (sub : t.talkers.Sublist s.talkers)
    (limit : t.talkers.length ≤ t.tuning.openLimit)
    (entries : ∀ e ∈ t.talkers, t.unmuted e.pod = true ∧ e.cls = (t.pod e.pod).cls)
    (last : t.tuning.lastOn = 0 → ∀ e ∈ t.talkers, e.isLast = false) : t.talkersSound := by
  obtain ⟨hpods, -, -, hhold, htail, -⟩ := h
  exact ⟨hpods.sublist (sub.map _), limit, entries, fun e he => hhold e (sub.subset he),
    fun e he => htail e (sub.tail.subset he), last⟩

/-- The same under unchanged limits. -/
theorem State.talkersSound.of_sublist_same {s t : State} (h : s.talkersSound) (sub : t.talkers.Sublist s.talkers)
    (tuning : t.tuning = s.tuning)
    (entries : ∀ e ∈ t.talkers, t.unmuted e.pod = true ∧ e.cls = (t.pod e.pod).cls) : t.talkersSound :=
  h.of_sublist sub (by rw [tuning]; exact sub.length_le.trans h.2.1) entries fun hl e he =>
    h.2.2.2.2.2 (by rw [← tuning]; exact hl) e (sub.subset he)

/-- After R21 an entry is of a resolved-unmuted channel if it was one before (R21). -/
theorem talkersSound_takeHoldChange {before after : State} (h : before.talkersSound)
    (talkers : after.talkers = before.talkers) (tuning : after.tuning = before.tuning)
    (listed : ∀ p, (after.pod p).listed = (before.pod p).listed) (cls : ∀ p, (after.pod p).cls = (before.pod p).cls) :
    (takeHoldChange before after).talkersSound := by
  refine h.of_sublist_same ?_ (by simpa using tuning) fun e he => ?_
  · rw [State.talkers_takeHoldChange, talkers]; exact List.filter_sublist
  · rw [State.talkers_takeHoldChange, talkers, List.mem_filter] at he
    obtain ⟨hmem, hstays⟩ := he
    obtain ⟨hunmuted, hcls⟩ := h.2.2.1 e hmem
    have hl : (before.pod e.pod).listed = true := by
      simp only [State.unmuted, Bool.and_eq_true] at hunmuted; exact hunmuted.1
    have hsame : (takeHoldChange before after).unmuted e.pod = after.unmuted e.pod :=
      State.unmuted_congr (by simp) (by simp) (by simp)
    refine ⟨?_, by simp [cls, hcls]⟩
    rw [hsame, State.unmuted_eq, listed, hl]
    simpa [hunmuted] using hstays

/-! ### Changes of hold sets and of the privacy record (R21) -/

theorem Pod.Kept.trans {known : Prop} {p : PodId} {a b c : Pod} (hab : a.Kept known p b) (hbc : b.Kept known p c) :
    a.Kept known p c where
  tabled := hbc.tabled ∘ hab.tabled
  gained := hbc.gained ∘ hab.gained
  linked := fun hk => hbc.linked hk ∘ hab.linked hk
  faulted := fun hk hl hf => hbc.faulted hk (hab.linked hk hl) (hab.faulted hk hl hf)
  started := hbc.started ∘ hab.started
  env := hbc.env.trans hab.env

/-- A muted-talk flag may be cleared. -/
theorem Pod.Kept.clearFlag {known : Prop} (p : PodId) (pod : Pod) (b : Bool) :
    pod.Kept known p { pod with mutedTalk := pod.mutedTalk && b } where
  tabled := id
  gained := id
  linked := fun _ ⟨hcleared, hrest⟩ => ⟨fun hl => by
    obtain ⟨h1, h2, h3, h4⟩ := hcleared hl
    exact ⟨h1, h2, by simp [h3], h4⟩, hrest⟩
  faulted := fun _ _ => id
  started := fun ⟨h1, h2, h3, h4, h5, h6, h7⟩ => ⟨h1, h2, h3, h4, h5, h6, by simp [h7]⟩
  env := le_rfl

/-- R21 keeps the laws when the changes that pass through it do. -/
theorem KeepsLaws.takeHoldChange {before after : State} {known : Prop} (room : RoomOnly before after)
    (hknown : before.tablesSound → before.linkSound → known)
    (pods : ∀ p, (before.pod p).Kept known p (after.pod p)) (legs : ∀ m, (before.leg m).Kept (after.leg m))
    (ports : ∀ q, (before.port q).Kept (after.port q)) (talkers : after.talkers = before.talkers)
    (listed : ∀ p, (after.pod p).listed = (before.pod p).listed) (cls : ∀ p, (after.pod p).cls = (before.pod p).cls)
    (slot : before.linkSound → after.slotSound) : KeepsLaws false before (takeHoldChange before after) := by
  refine KeepsLaws.of_records (known := known) ?_ hknown (fun p => ?_) (fun m => ?_) (fun q => ?_) (fun hs => ?_) ?_
    (fun hs => ?_) (fun h => by cases h)
  · have hroom : ∀ t : State, t = { after with pods := t.pods, ports := t.ports, talkers := t.talkers } → RoomOnly before t := by
      intro t ht
      unfold RoomOnly at room ⊢
      rw [ht, room]
    exact hroom _ (by simp only [Machine.takeHoldChange, State.raiseIf_eq_mapPorts, State.mapPods, State.mapPorts])
  · rw [State.pod_takeHoldChange]
    exact (pods p).trans (Pod.Kept.clearFlag p _ _)
  · rw [State.leg_takeHoldChange]; exact legs m
  · rw [State.port_takeHoldChange]
    exact ((ports q).trans (Port.Kept.notifyIf _ _ _)).trans (Port.Kept.notifyIf _ _ _)
  · exact talkersSound_takeHoldChange hs.talkers talkers (by rw [room]) listed cls
  · rw [State.talkers_takeHoldChange, talkers]
    intro h; rw [h]; rfl
  · simpa [State.slotSound] using slot hs

/-- A change of hold sets, of the privacy record, of legs that close and of ports, before R21. -/
structure HoldsMoved (s t : State) : Prop where
  room : t = { s with pods := t.pods, legs := t.legs, ports := t.ports, privacy := t.privacy }
  pods : ∀ p, t.pod p = { s.pod p with holds := (t.pod p).holds }
  link : ∀ p, (t.pod p).holds.link = (s.pod p).holds.link
  unheld : ∀ p, (s.pod p).listed = false → (s.pod p).holds = HoldSet.empty → (t.pod p).holds = HoldSet.empty
  legs : ∀ m, (s.leg m).Kept (t.leg m)
  ports : ∀ q, (s.port q).Kept (t.port q)

theorem Leg.Kept.trans {a b c : Leg} (hab : a.Kept b) (hbc : b.Kept c) : a.Kept c :=
  ⟨hbc.gain ∘ hab.gain, hbc.closed ∘ hab.closed, hbc.gained ∘ hab.gained, hbc.quiet ∘ hab.quiet⟩

namespace HoldsMoved

variable {s t u : State}

theorem listed (h : HoldsMoved s t) (p : PodId) : (t.pod p).listed = (s.pod p).listed := by rw [h.pods p]

theorem trans (hst : HoldsMoved s t) (htu : HoldsMoved t u) : HoldsMoved s u where
  room := by rw [htu.room, hst.room]
  pods := fun p => by rw [htu.pods p, hst.pods p]
  link := fun p => (htu.link p).trans (hst.link p)
  unheld := fun p hl hh => htu.unheld p ((hst.listed p).trans hl) (hst.unheld p hl hh)
  legs := fun m => (hst.legs m).trans (htu.legs m)
  ports := fun q => (hst.ports q).trans (htu.ports q)

/-- The hold sets of pods change. -/
theorem mapPods (s : State) {f : PodId → Pod → Pod} (h : ∀ p, f p (s.pod p) = { s.pod p with holds := (f p (s.pod p)).holds })
    (link : ∀ p, (f p (s.pod p)).holds.link = (s.pod p).holds.link)
    (unheld : ∀ p, (s.pod p).listed = false → (s.pod p).holds = HoldSet.empty → (f p (s.pod p)).holds = HoldSet.empty) :
    HoldsMoved s (s.mapPods f) where
  room := by simp only [State.mapPods]
  pods := fun p => by rw [State.pod_mapPods]; exact h p
  link := fun p => by rw [State.pod_mapPods]; exact link p
  unheld := fun p => by rw [State.pod_mapPods]; exact unheld p
  legs := fun m => by rw [State.leg_mapPods]; exact Leg.Kept.refl _
  ports := fun q => by rw [State.port_mapPods]; exact Port.Kept.refl _

theorem mapLegs (s : State) {f : LegId → Leg → Leg} (h : ∀ m, (s.leg m).Kept (f m (s.leg m))) : HoldsMoved s (s.mapLegs f) where
  room := by simp only [State.mapLegs]
  pods := fun p => by rw [State.pod_mapLegs]
  link := fun p => by rw [State.pod_mapLegs]
  unheld := fun p _ => by rw [State.pod_mapLegs]; exact id
  legs := fun m => by rw [State.leg_mapLegs]; exact h m
  ports := fun q => by rw [State.port_mapLegs]; exact Port.Kept.refl _

theorem modPort (s : State) (q : PortId) {f : Port → Port} (h : (s.port q).Kept (f (s.port q))) : HoldsMoved s (s.modPort q f) where
  room := by simp only [State.modPort, State.mapPorts]
  pods := fun p => by rw [State.pod_modPort]
  link := fun p => by rw [State.pod_modPort]
  unheld := fun p _ => by rw [State.pod_modPort]; exact id
  legs := fun m => by rw [State.leg_modPort]; exact Leg.Kept.refl _
  ports := fun k => by
    rw [State.port_modPort]
    split
    · rename_i hk; subst hk; exact h
    · exact Port.Kept.refl _

theorem withPrivacy (s : State) (x : Option Setter) : HoldsMoved s { s with privacy := x } :=
  ⟨rfl, fun _ => rfl, fun _ => rfl, fun _ _ => id, fun _ => Leg.Kept.refl _, fun _ => Port.Kept.refl _⟩

theorem refl (s : State) : HoldsMoved s s := withPrivacy s s.privacy

/-- A hold set that keeps its LINK entry, and stays empty at an unlisted pod, keeps the laws. -/
theorem podKept (h : HoldsMoved s t) (p : PodId) : (s.pod p).Kept True p (t.pod p) := by
  rw [h.pods p]
  refine ⟨id, id, fun _ ⟨hcleared, hlisted, hrest⟩ => ⟨fun hl => ?_, fun hl => ?_, hrest⟩, fun _ _ => id, id, le_rfl⟩
  · obtain ⟨hlink, hholds, hcleared⟩ := hcleared hl
    exact ⟨hlink, h.unheld p hl hholds, hcleared⟩
  · have hlink := h.link p
    exact ⟨(hlisted hl).1, by rw [hlink]; exact (hlisted hl).2⟩

theorem keepsLaws (h : HoldsMoved s t) : KeepsLaws false s (takeHoldChange s t) := by
  refine KeepsLaws.takeHoldChange ?_ (fun _ _ => trivial) h.podKept h.legs h.ports (by rw [h.room]) h.listed
    (fun p => by rw [h.pods p]) fun hs x hx hj hd => ?_
  · unfold RoomOnly; rw [h.room]
  · rw [h.listed]
    exact hs.2 x (by rw [h.room] at hx; exact hx) hj hd

end HoldsMoved

/-! ### Legs -/

/-- A leg may change its hold sets. -/
theorem Leg.Kept.holds (leg : Leg) (a b : LegHolds) : leg.Kept { leg with sendHolds := a, receiveHolds := b } := ⟨id, id, id, id⟩

/-- A close zeroes a leg's envelopes (R51). -/
theorem Leg.Kept.close (leg : Leg) (drop : Bool) : leg.Kept (leg.close drop) :=
  ⟨id, fun _ _ => ⟨rfl, rfl, rfl⟩, fun _ => ⟨⟨Nat.zero_le _, Nat.zero_le _⟩, ⟨Nat.zero_le _, Nat.zero_le _⟩, Nat.zero_le _, Nat.zero_le _⟩,
    fun _ => ⟨rfl, rfl, rfl⟩⟩

/-- A leg that enters OPEN or HELD. -/
theorem Leg.Kept.activate (leg : Leg) {target : LegState} (h : target ≠ .closed) : leg.Kept { leg with state := target } :=
  ⟨id, fun _ hc => absurd hc h, id, id⟩

theorem HoldsMoved.lastClose (s : State) : HoldsMoved s s.lastClose := by
  have hpods : HoldsMoved s (s.mapPods fun _ pod => { pod with holds := pod.holds.afterLastClose s.tuning }) :=
    HoldsMoved.mapPods s (fun _ => rfl) (fun _ => rfl) fun p _ hh => by simp [HoldSet.afterLastClose, hh, HoldSet.empty]
  rw [State.lastClose_eq]
  dsimp only
  split
  · exact hpods.trans (HoldsMoved.withPrivacy _ _)
  · exact hpods

theorem HoldsMoved.closeLegs (s : State) (pick : LegId → Bool) : HoldsMoved s (s.closeLegs pick) := by
  have hlegs : HoldsMoved s (s.mapLegs fun m leg =>
      if pick m && (s.leg m).active then leg.close s.tuning.closeDropLegHolds else leg) :=
    HoldsMoved.mapLegs s fun m => by
      split
      · exact Leg.Kept.close _ _
      · exact Leg.Kept.refl _
  unfold State.closeLegs
  dsimp only
  split
  · exact hlegs.trans (HoldsMoved.lastClose _)
  · exact hlegs

theorem HoldsMoved.firstOpen (s : State) : HoldsMoved s s.firstOpen := by
  unfold State.firstOpen
  split
  · refine HoldsMoved.mapPods s (fun p => ?_) (fun p => ?_) fun p hl _ => ?_
    · split <;> rfl
    · split <;> rfl
    · simpa [hl]
  · exact HoldsMoved.refl s

theorem HoldsMoved.setLegState (s : State) (m : LegId) (target : LegState) : HoldsMoved s (s.setLegState m target) := by
  have hmod : ∀ x : LegState, x ≠ .closed → HoldsMoved s (s.modLeg m fun leg => { leg with state := x }) := fun x hx =>
    HoldsMoved.mapLegs s fun k => by
      split
      · exact Leg.Kept.activate _ hx
      · exact Leg.Kept.refl _
  cases target with
  | closed => exact HoldsMoved.closeLegs s _
  | held => exact hmod .held (by decide)
  | opened =>
    unfold State.setLegState
    dsimp only
    split
    · exact hmod .opened (by decide)
    · exact (hmod .opened (by decide)).trans (HoldsMoved.firstOpen _)

theorem HoldsMoved.vacateLegs (s : State) (role : Option Role) : HoldsMoved s (s.vacateLegs role) := by
  unfold State.vacateLegs
  split
  · exact HoldsMoved.closeLegs s _
  · exact HoldsMoved.refl s

theorem HoldSet.link_addRole (h : HoldSet) (role : Option Role) : (h.addRole role).link = h.link := by
  rcases role with _ | _ | _ | _ <;> rfl

theorem HoldSet.link_removeRole (h : HoldSet) (role : Option Role) : (h.removeRole role).link = h.link := by
  rcases role with _ | _ | _ | _ <;> rfl

theorem HoldSet.removeRole_empty (role : Option Role) : HoldSet.empty.removeRole role = HoldSet.empty := by
  rcases role with _ | _ | _ | _ <;> rfl

theorem HoldsMoved.dropRoleHolds (s : State) (role : Option Role) : HoldsMoved s (s.dropRoleHolds role) :=
  (HoldsMoved.mapPods s (f := fun _ pod => { pod with holds := pod.holds.removeRole role }) (fun _ => rfl)
    (fun _ => HoldSet.link_removeRole _ _) fun _ _ hh => by simp [hh, HoldSet.removeRole_empty]).trans
    (HoldsMoved.mapLegs _ fun _ => Leg.Kept.holds _ _ _)

/-- The hold sets of listed pods change, LINK excepted (R24, R25, R27, R28). -/
theorem HoldsMoved.changePodHolds (s : State) (word : Nat) {f : HoldSet → HoldSet} (h : ∀ x, (f x).link = x.link) :
    HoldsMoved s (s.changePodHolds (s.listedNamed word) f) := by
  refine HoldsMoved.mapPods s (fun p => ?_) (fun p => ?_) fun p hl hh => ?_
  · split <;> rfl
  · split
    · exact h _
    · rfl
  · simp [State.listedNamed, hl, hh]

theorem HoldsMoved.changeLegHolds (s : State) (applied : BitVec 4) (send : Bool) (f : LegHolds → LegHolds) :
    HoldsMoved s (s.changeLegHolds applied send f) :=
  HoldsMoved.mapLegs s fun m => by
    split
    · split <;> exact Leg.Kept.holds _ _ _
    · exact Leg.Kept.refl _

/-! ### Presses (R32 to R36) -/

theorem HoldSet.link_afterShortPress (h : HoldSet) (podOverride : Nat) : (h.afterShortPress podOverride).link = h.link := by
  unfold HoldSet.afterShortPress
  split
  · rfl
  · split <;> rfl

/-- A pod with presses to deliver is listed (R32, R37). -/
theorem Pod.linked.listed_of_due {pod : Pod} (h : pod.linked) (due : 0 < pod.shortDue ∨ 0 < pod.longDue) :
    pod.listed = true := by
  obtain ⟨hcleared, -, -, hdue, -⟩ := h
  cases hl : pod.listed with
  | true => rfl
  | false =>
    have hlink := (hcleared hl).1
    rcases hdue due with h | h <;> simp [hlink] at h

/-- A pod whose hold set changes and whose presses are counted down. -/
theorem Pod.Kept.press {known : Prop} (p : PodId) (pod : Pod) (h : HoldSet) (i j : Nat) (hlink : h.link = pod.holds.link)
    (hlisted : known → pod.listed = true ∨ h = pod.holds) :
    pod.Kept known p { pod with holds := h, shortDue := pod.shortDue - i, longDue := pod.longDue - j } := by
  refine ⟨id, id, fun hk hpod => ?_, fun _ _ => id, id, le_rfl⟩
  obtain ⟨hcleared, hlinked, hbase, hdue, hrange, hshort, hlong, hrest⟩ := hpod
  refine ⟨fun hl => ?_, fun hl => ?_, hbase, fun hd => hdue ?_, hrange, (Nat.sub_le ..).trans hshort,
    (Nat.sub_le ..).trans hlong, hrest⟩
  · rcases hlisted hk with h' | h'
    · exact absurd (hl : pod.listed = false) (by simp [h'])
    · obtain ⟨h1, h2, h3⟩ := hcleared hl
      exact ⟨h1, h'.trans h2, h3⟩
  · rw [hlink]; exact hlinked hl
  · rcases hd with hd | hd
    · exact .inl (lt_of_lt_of_le hd (Nat.sub_le ..))
    · exact .inr (lt_of_lt_of_le hd (Nat.sub_le ..))

theorem KeepsLaws.deliverShort (s : State) (p : PodId) (due : 0 < (s.pod p).shortDue) : KeepsLaws false s (deliverShort p s) := by
  rw [deliverShort_eq, holdEvent]
  have hroom := s.afterShort_eq p
  have hpod := s.pod_afterShort p
  refine (KeepsLaws.takeHoldChange (known := (s.pod p).listed = true) ?_
    (fun _ hl => Pod.linked.listed_of_due (hl.1 p) (.inl due)) (fun k => ?_) (fun m => ?_) (fun q => ?_) (by rw [hroom])
    (fun k => by rw [hpod]) (fun k => by rw [hpod]) fun hs => ?_).trans (KeepsLaws.settle _ _)
  · unfold RoomOnly; rw [hroom]
  · rw [hpod]
    refine Pod.Kept.press k (s.pod k) _ _ 0 ?_ fun hl => ?_
    · split
      · rename_i hk; subst hk
        unfold State.holdsAfterShort
        split
        · rfl
        · exact HoldSet.link_afterShortPress _ _
      · rfl
    · by_cases hk : k = p
      · subst hk; exact .inl hl
      · exact .inr (if_neg hk)
  · have hleg : (s.afterShort p).leg m = s.leg m := by simp [State.afterShort]
    rw [hleg]; exact Leg.Kept.refl _
  · have hport : (s.afterShort p).port q = s.port q := by simp [State.afterShort]
    rw [hport]; exact Port.Kept.refl _
  · have hslot : (s.afterShort p).slot = s.slot := by simp [State.afterShort]
    intro x hx hj hd
    rw [hslot] at hx
    rw [hpod]
    exact hs.2 x hx hj hd

theorem KeepsLaws.deliverLong (s : State) (p : PodId) : KeepsLaws false s (deliverLong p s) := by
  rw [deliverLong_eq, holdEvent]
  have hroom := s.afterLong_eq p
  have hpod := s.pod_afterLong p
  refine (KeepsLaws.takeHoldChange (known := True) ?_ (fun _ _ => trivial) (fun k => ?_) (fun m => ?_) (fun q => ?_)
    (by rw [hroom]; rfl) (fun k => by rw [hpod]) (fun k => by rw [hpod]) fun hs => ?_).trans (KeepsLaws.settle _ _)
  · unfold RoomOnly; rw [hroom]; simp only [State.withPrivacy]
  · rw [hpod]
    exact Pod.Kept.press k (s.pod k) _ 0 _ rfl fun _ => .inr rfl
  · have hleg : (s.afterLong p).leg m = s.leg m := by simp [State.afterLong, State.withPrivacy]
    rw [hleg]; exact Leg.Kept.refl _
  · have hport : (s.afterLong p).port q = s.port q := by simp [State.afterLong, State.withPrivacy]
    rw [hport]; exact Port.Kept.refl _
  · have hslot : (s.afterLong p).slot = s.slot := by simp [State.afterLong, State.withPrivacy]
    intro x hx hj hd
    rw [hslot] at hx
    rw [hpod]
    exact hs.2 x hx hj hd

end Sys2Proof.Machine
end

section
/-! The cut of the talker list to a limit (R15), and the parameters (R3, R13). -/

namespace Sys2Proof.Machine

/-! ### The limit cut (R15) -/

/-- The cut's order reads of a list only which entries come first. -/
theorem cutBefore_iff_of_sublist {l m : List Talker} (h : l.Sublist m) (hm : m.Nodup) {gone kept : Talker}
    (hgone : gone ∈ l) (hkept : kept ∈ l) : cutBefore l gone kept ↔ cutBefore m gone kept := by
  simp only [cutBefore, idxOf_lt_idxOf_of_sublist h hm hgone hkept]

/-- The cut takes the entry that comes before every other in its order. -/
theorem cutVictim_spec {l : List Talker} {v : Talker} (h : cutVictim l = some v) (hl : l.Nodup) :
    v ∈ l ∧ ∀ kept ∈ l, kept ≠ v → cutBefore l v kept := by
  unfold cutVictim at h
  have hmem : ∀ e, e ∈ l.filter (fun e => !e.isOpen) ↔ e ∈ l ∧ e.isOpen = false := fun e => by simp
  split at h
  · rename_i x hx
    obtain rfl : x = v := Option.some.inj h
    obtain ⟨hin, hlow⟩ := lowestOldest_spec hx
    obtain ⟨hmemv, hclosed⟩ := (hmem x).1 hin
    refine ⟨hmemv, fun kept hkept hne => ?_⟩
    simp only [cutBefore, hclosed, Bool.false_eq_true, if_false]
    cases hopen : kept.isOpen with
    | true => exact .inl rfl
    | false =>
      have hkept' := (hmem kept).2 ⟨hkept, hopen⟩
      rw [← idxOf_lt_idxOf_of_sublist List.filter_sublist hl hin hkept']
      exact .inr (hlow kept hkept' hne)
  · rename_i hnone
    have hall : ∀ e ∈ l, e.isOpen = true := fun e he => by
      have hempty := (lowestOldest_eq_none_iff _).1 hnone
      simpa using List.filter_eq_nil_iff.1 hempty e he
    obtain ⟨hmemv, hlow⟩ := lowestNewest_spec h hl
    refine ⟨hmemv, fun kept hkept hne => ?_⟩
    simp only [cutBefore, hall v hmemv, if_true]
    exact ⟨hall kept hkept, hlow kept hkept hne⟩

theorem cutVictim_ne_none {l : List Talker} (h : l ≠ []) : cutVictim l ≠ none := by
  unfold cutVictim
  split
  · exact Option.some_ne_none _
  · exact fun hnone => h ((lowestNewest_eq_none_iff l).1 hnone)

/-- The limit cut leaves as many entries as the limit allows, in their order, and an entry leaves only before those that stay (R15). -/
theorem limitCut_spec {limit fuel : Nat} {l : List Talker} (hpods : (l.map Talker.pod).Nodup)
    (hfuel : l.length ≤ limit + fuel) :
    (limitCut limit fuel l).Sublist l ∧ (limitCut limit fuel l).length = min limit l.length ∧
      ∀ gone ∈ l, ∀ kept ∈ limitCut limit fuel l, gone ∉ limitCut limit fuel l → cutBefore l gone kept := by
  induction fuel generalizing l with
  | zero => exact ⟨List.Sublist.refl _, by simp only [limitCut]; omega, fun _ hg _ _ hn => absurd hg hn⟩
  | succ fuel ih =>
    simp only [limitCut]
    split
    · exact ⟨List.Sublist.refl _, by omega, fun _ hg _ _ hn => absurd hg hn⟩
    · rename_i hlong
      have hne : l ≠ [] := by rintro rfl; simp at hlong
      have hl : l.Nodup := List.Nodup.of_map _ hpods
      split
      · rename_i hnone
        exact absurd hnone (cutVictim_ne_none hne)
      · rename_i v hv
        obtain ⟨hmem, hbefore⟩ := cutVictim_spec hv hl
        have hsub : (l.erase v).Sublist l := List.erase_sublist
        have hlength := List.length_erase_of_mem hmem
        rw [withoutPod_eq_erase hpods hmem]
        obtain ⟨hcut, hcount, horder⟩ := ih (hpods.sublist (hsub.map _)) (by omega)
        refine ⟨hcut.trans hsub, by omega, fun gone hgone kept hkept hout => ?_⟩
        have hkept' := hcut.subset hkept
        by_cases hgv : gone = v
        · subst hgv
          exact hbefore kept (hsub.subset hkept') fun he => absurd (he ▸ hkept') (hl.not_mem_erase)
        · have hgone' : gone ∈ l.erase v := (List.mem_erase_of_ne hgv).2 hgone
          exact (cutBefore_iff_of_sublist hsub hl hgone' hkept').1 (horder gone hgone' kept hkept hout)

/-! ### Parameters (R3, R13, R15) -/

theorem Tuning.get_set_ne (t : Tuning) {x y : Param} (v : Nat) (h : y ≠ x) : (t.set x v).get y = t.get y := by
  cases x <;> cases y <;> simp_all [Tuning.set, Tuning.get]

/-- A value in range is held as it is given. -/
theorem Tuning.get_set_self (t : Tuning) (x : Param) {v : Nat} (h : v ≤ x.range.2) : (t.set x v).get x = v := by
  cases x with
  | flush =>
    have hv : v < 2 ^ 5 := by simpa [Param.range, Nat.lt_succ_iff] using h
    simp only [Tuning.set, Tuning.get, BitVec.toNat_ofNat, Nat.mod_eq_of_lt hv]
  | _ => rfl

/-- A clamped value is in range (R5). -/
theorem Param.clamp_range (x : Param) (v : Nat) : x.range.1 ≤ x.clamp v ∧ x.clamp v ≤ x.range.2 := by
  have hrange : x.range.1 ≤ x.range.2 := by cases x <;> decide
  cases x with
  | flush => exact ⟨Nat.zero_le _, by simp only [Param.range, Param.clamp]; omega⟩
  | _ => exact ⟨by simp only [Param.clamp]; omega, Nat.min_le_left _ _⟩

theorem Tuning.defaults_range (x : Param) : x.range.1 ≤ Tuning.defaults.get x ∧ Tuning.defaults.get x ≤ x.range.2 := by
  cases x <;> decide

/-- The talker list once a parameter has taken its value (R15). -/
def State.talkersTuned (s : State) (x : Param) : List Talker :=
  match x with
  | .openLimit => limitCut s.tuning.openLimit s.talkers.length s.talkers
  | .lastOn => if s.tuning.lastOn = 0 then s.talkers.filter fun e => !e.isLast else s.talkers
  | _ => s.talkers

/-- What a parameter does at once is a change of the talker list, with TALKERS if an entry left (R15). -/
theorem State.afterTuning_eq (s : State) (x : Param) : s.afterTuning x =
    { s with talkers := s.talkersTuned x }.raiseIf (decide ((s.talkersTuned x).length < s.talkers.length)) .talkers := by
  cases x with
  | openLimit => rfl
  | lastOn =>
    simp only [State.afterTuning, State.talkersTuned]
    split
    · rfl
    · simp [State.raiseIf]
  | _ => simp [State.afterTuning, State.talkersTuned, State.raiseIf]

/-- The state with a parameter's value and the talker list it leaves. -/
def State.tuned (s : State) (x : Param) (v : Nat) : State :=
  { s with tuning := s.tuning.set x v, talkers := ({ s with tuning := s.tuning.set x v } : State).talkersTuned x }

/-- A parameter that takes a new value (R13, R15). -/
theorem State.tune_of_ne {s : State} {x : Param} {v : Nat} (h : s.tuning.get x ≠ v) : s.tune x v =
    (s.tuned x v).raiseIf (decide ((s.tuned x v).talkers.length < s.talkers.length)) .talkers := by
  rw [State.tune, if_neg h, State.afterTuning_eq]
  rfl

/-- A parameter does not lengthen the talker list or change its order. -/
theorem State.talkersTuned_sublist (s : State) (x : Param) (h : (s.talkers.map Talker.pod).Nodup) :
    (s.talkersTuned x).Sublist s.talkers := by
  cases x with
  | openLimit => exact (limitCut_spec h (Nat.le_add_left ..)).1
  | lastOn =>
    simp only [State.talkersTuned]
    split
    · exact List.filter_sublist
    · exact List.Sublist.refl _
  | _ => exact List.Sublist.refl _

/-- The talker list keeps law 3 under a parameter's new value (R15). -/
theorem State.talkersSound_tuned {s : State} (h : s.talkersSound) (x : Param) {v : Nat} (hv : v ≤ x.range.2) :
    (s.tuned x v).talkersSound := by
  let s1 : State := { s with tuning := s.tuning.set x v }
  have hsub : (s.tuned x v).talkers.Sublist s.talkers := s1.talkersTuned_sublist x h.1
  refine h.of_sublist hsub ?_ (fun e he => h.2.2.1 e (hsub.subset he)) fun hl e he => ?_
  · by_cases hx : x = .openLimit
    · subst hx
      exact ((limitCut_spec (l := s1.talkers) h.1 (Nat.le_add_left ..)).2.1).trans_le (Nat.min_le_left _ _)
    · have hsame : (s.tuned x v).tuning.openLimit = s.tuning.openLimit :=
        Tuning.get_set_ne s.tuning (y := .openLimit) v fun he => hx he.symm
      rw [hsame]
      exact hsub.length_le.trans h.2.1
  · by_cases hx : x = .lastOn
    · subst hx
      have hlist : (s.tuned .lastOn v).talkers = s.talkers.filter fun e => !e.isLast := if_pos hl
      rw [hlist, List.mem_filter] at he
      simpa using he.2
    · have hsame : (s.tuned x v).tuning.lastOn = s.tuning.lastOn :=
        Tuning.get_set_ne s.tuning (y := .lastOn) v fun he => hx he.symm
      exact h.2.2.2.2.2 (hsame.symm.trans hl) e (hsub.subset he)

theorem State.tablesSound_tuned {s : State} (h : s.tablesSound) (x : Param) {v : Nat}
    (hv : x.range.1 ≤ v ∧ v ≤ x.range.2) : (s.tuned x v).tablesSound := by
  refine ⟨h.1, h.2.1, fun y hy => ?_⟩
  have htuning : (s.tuned x v).tuning = s.tuning.set x v := rfl
  rw [htuning]
  by_cases hxy : y = x
  · rw [hxy, Tuning.get_set_self _ _ hv.2]; exact hv
  · rw [Tuning.get_set_ne _ _ hxy]; exact h.2.2 y hy

theorem KeepsLaws.tuned (s : State) (x : Param) {v : Nat} (hv : x.range.1 ≤ v ∧ v ≤ x.range.2) :
    KeepsLaws false s (s.tuned x v) where
  tables := fun h => State.tablesSound_tuned h x hv
  legs := id
  gains := fun _ => id
  ports := id
  store := id
  link := State.lawful.link
  talkers := fun h => State.talkersSound_tuned h.talkers x hv.2
  lanes := State.lawful.lanes
  start := fun h hs => by
    obtain ⟨ht, hrest⟩ := h.start hs
    have hsub : (s.tuned x v).talkers.Sublist s.talkers :=
      State.talkersTuned_sublist { s with tuning := s.tuning.set x v } x h.talkers.1
    exact ⟨List.sublist_nil.1 (ht ▸ hsub), hrest⟩
  faults := State.lawful.faults
  installer := rfl
  commits := fun _ _ _ => id
  calm := fun _ _ => le_rfl
  privacy := fun h => by cases h

theorem KeepsLaws.tune (s : State) (x : Param) {v : Nat} (hv : x.range.1 ≤ v ∧ v ≤ x.range.2) :
    KeepsLaws false s (s.tune x v) := by
  by_cases h : s.tuning.get x = v
  · rw [State.tune, if_pos h]; exact KeepsLaws.refl _ _
  · rw [State.tune_of_ne h]; exact (KeepsLaws.tuned s x hv).trans (KeepsLaws.raiseIf _ _ _ _)

end Sys2Proof.Machine
end

section
/-! Listing, unlisting, tables and the profile load keep the laws (R6, R7, R9 to R13, R180). -/

namespace Sys2Proof.Machine

/-! ### One pod -/

/-- A pod that is listed keeps the laws (R6). -/
theorem Pod.Kept.list (p : PodId) {pod : Pod} (h : pod.listed = false) : pod.Kept True p pod.list where
  tabled := fun ⟨hcls, hexcl, htrim, hvolume, _⟩ => ⟨hcls, hexcl, htrim, hvolume, fun _ => rfl⟩
  gained := fun ⟨hm, hg, hc, hca, hce, hv, _, _⟩ => ⟨hm, hg, hc, hca, hce, hv, Nat.zero_le _, Nat.zero_le _⟩
  linked := fun _ _ => by simp [Pod.linked, Pod.list, HoldSet.linkOnly, Pod.reachable]
  faulted := fun _ hlink hfault => by
    obtain ⟨hcleared, -⟩ := hlink
    obtain ⟨hl, -, -, -, -, -, -, -, -, -, hlocal⟩ := hcleared h
    obtain ⟨hsound, hlost, -, hlocalc, hrest⟩ := hfault
    refine ⟨hsound, ?_, fun _ => rfl, ?_, hrest⟩
    · simpa [Pod.list, hl] using hlost
    · simpa [Pod.list, hlocal] using hlocalc
  started := fun ⟨hm, hg, hc, hce, _, _, _⟩ => ⟨hm, hg, hc, hce, rfl, rfl, rfl⟩
  env := le_rfl

/-- A pod that is unlisted keeps the laws (R7). -/
theorem Pod.Kept.unlist (p : PodId) (pod : Pod) : pod.Kept True p pod.unlist where
  tabled := fun ⟨hcls, hexcl, htrim, hvolume, _⟩ => ⟨hcls, hexcl, htrim, hvolume, fun h => by cases h⟩
  gained := fun ⟨_, _, _, _, _, hv, _, _⟩ =>
    ⟨⟨Nat.zero_le _, Nat.zero_le _⟩, ⟨Nat.zero_le _, Nat.zero_le _⟩, Nat.zero_le _, ⟨Nat.zero_le _, Nat.zero_le _⟩,
      Nat.zero_le _, hv, Nat.zero_le _, Nat.zero_le _⟩
  linked := fun _ _ => ⟨fun _ => ⟨rfl, rfl, rfl, rfl, rfl, rfl, rfl, rfl, rfl, rfl, rfl⟩, fun h => (by cases h), by simp [Pod.unlist, Pod.reachable]⟩
  faulted := fun _ _ ⟨⟨_, _, _, herrors⟩, _, _, _, hrest⟩ =>
    ⟨⟨FaultRecord.sound_report _ _, FaultRecord.sound_report _ _, FaultRecord.sound_report _ _, herrors⟩,
      by simp [Pod.unlist], fun h => by simp [Pod.unlist] at h, by simp [Pod.unlist], hrest⟩
  started := fun _ => ⟨rfl, rfl, rfl, rfl, rfl, rfl, rfl⟩
  env := Nat.zero_le _

/-- A pod that takes a chair membership and a class (R9, R10). -/
theorem Pod.Kept.retag {known : Prop} (p : PodId) (pod : Pod) (chair : Bool) (cls : Nat)
    (hchair : chair = true → pod.chair = true ∨ pod.listed = true) (hcls : cls = pod.cls ∨ cls ≤ maxClass) :
    pod.Kept known p { pod with chair := chair, cls := cls } where
  tabled := fun ⟨hc, hexcl, htrim, hvolume, hl⟩ =>
    ⟨hcls.elim (fun h => h ▸ hc) id, hexcl, htrim, hvolume, fun h => (hchair h).elim hl id⟩
  gained := id
  linked := fun _ => id
  faulted := fun _ _ => id
  started := id
  env := le_rfl

/-- A pod that takes a trim (R12). -/
theorem Pod.Kept.setTrim {known : Prop} (p : PodId) (pod : Pod) {v : Nat} (hv : v ≤ maxTrim) :
    pod.Kept known p (pod.setTrim v) where
  tabled := fun ⟨hc, hexcl, _, hvolume, hl⟩ => ⟨hc, hexcl, hv, hvolume, hl⟩
  gained := fun ⟨hm, hg, _, hca, hrest⟩ =>
    ⟨hm, hg, Nat.min_le_right _ _, ⟨hca.1, (Nat.min_le_left _ _).trans hca.2⟩, hrest⟩
  linked := fun _ ⟨hcleared, hrest⟩ => ⟨fun hl => by
    obtain ⟨h1, h2, h3, h4, h5, h6, h7, h8, h9⟩ := hcleared hl
    exact ⟨h1, h2, h3, h4, h5, h6, h7, by simp [Pod.setTrim, h8, Ramp.flat], h9⟩, hrest⟩
  faulted := fun _ _ => id
  started := fun ⟨h1, h2, h3, hrest⟩ => ⟨h1, h2, by simp [Pod.setTrim, h3, Ramp.flat], hrest⟩
  env := le_rfl

/-- A pod that takes an exclusion set and a volume (R11, R12). -/
theorem Pod.Kept.retable {known : Prop} (p : PodId) (pod : Pod) (excl : PodSet) (volume : Nat)
    (hexcl : excl = pod.excl ∨ PodSet.has excl p = true) (hvolume : volume = pod.volume ∨ volume ≤ unity) :
    pod.Kept known p { pod with excl := excl, volume := volume } where
  tabled := fun ⟨hc, hx, htrim, hv, hl⟩ => ⟨hc, hexcl.elim (fun h => h ▸ hx) id, htrim, hvolume.elim (fun h => h ▸ hv) id, hl⟩
  gained := id
  linked := fun _ => id
  faulted := fun _ _ => id
  started := id
  env := le_rfl

/-! ### Changes of pod and leg records alone -/

/-- A change of pod records that keeps listing, hold sets and classes keeps law 3. -/
theorem State.talkersSound_mapPods {s : State} (h : s.talkersSound) (f : PodId → Pod → Pod)
    (listed : ∀ p, (f p (s.pod p)).listed = (s.pod p).listed) (holds : ∀ p, (f p (s.pod p)).holds = (s.pod p).holds)
    (cls : ∀ p, (f p (s.pod p)).cls = (s.pod p).cls) : (s.mapPods f).talkersSound := by
  refine h.of_sublist_same (by simp) (by simp) fun e he => ?_
  obtain ⟨hu, hc⟩ := h.2.2.1 e (by simpa using he)
  have hsame : (s.mapPods f).unmuted e.pod = s.unmuted e.pod :=
    State.unmuted_congr (by simp [listed]) (by simp [holds]) (by simp)
  exact ⟨hsame.trans hu, by simp [cls, hc]⟩

theorem KeepsLaws.mapPods (s : State) {f : PodId → Pod → Pod} (pods : ∀ p, (s.pod p).Kept True p (f p (s.pod p)))
    (listed : ∀ p, (f p (s.pod p)).listed = (s.pod p).listed) (holds : ∀ p, (f p (s.pod p)).holds = (s.pod p).holds)
    (cls : ∀ p, (f p (s.pod p)).cls = (s.pod p).cls) : KeepsLaws false s (s.mapPods f) := by
  refine KeepsLaws.of_records (known := True) ?_ (fun _ _ => trivial) (fun p => ?_) (fun m => ?_) (fun q => ?_)
    (fun hs => State.talkersSound_mapPods hs.talkers f listed holds cls) (by simp) (fun hs => ?_) (fun h => by cases h)
  · unfold RoomOnly; simp only [State.mapPods]
  · rw [State.pod_mapPods]; exact pods p
  · rw [State.leg_mapPods]; exact Leg.Kept.refl _
  · rw [State.port_mapPods]; exact Port.Kept.refl _
  · simpa [State.slotSound, listed] using hs.2

theorem KeepsLaws.mapLegs (s : State) {f : LegId → Leg → Leg} (legs : ∀ m, (s.leg m).Kept (f m (s.leg m))) :
    KeepsLaws false s (s.mapLegs f) := by
  refine KeepsLaws.of_records (known := True) ?_ (fun _ _ => trivial) (fun p => ?_) (fun m => ?_) (fun q => ?_)
    (fun hs => ?_) (by simp) (fun hs => ?_) (fun h => by cases h)
  · unfold RoomOnly; simp only [State.mapLegs]
  · rw [State.pod_mapLegs]; exact Pod.Kept.refl p _
  · rw [State.leg_mapLegs]; exact legs m
  · rw [State.port_mapLegs]; exact Port.Kept.refl _
  · simpa only [State.talkersSound, State.talkers_mapLegs, State.tuning_mapLegs, State.unmuted_mapLegs, State.pod_mapLegs]
      using hs.talkers
  · simpa [State.slotSound] using hs.2

/-- A change of one pod's record at RT. -/
theorem KeepsLaws.modPod (s : State) (p : PodId) {f : Pod → Pod} (h : (s.pod p).Kept True p (f (s.pod p)))
    (listed : (f (s.pod p)).listed = (s.pod p).listed) (holds : (f (s.pod p)).holds = (s.pod p).holds)
    (cls : (f (s.pod p)).cls = (s.pod p).cls) : KeepsLaws false s (s.modPod p f) := by
  refine KeepsLaws.mapPods s (fun k => ?_) (fun k => ?_) (fun k => ?_) fun k => ?_
  · by_cases hk : k = p
    · subst hk; simpa using h
    · simpa [hk] using Pod.Kept.refl k _
  all_goals by_cases hk : k = p
  all_goals simp [hk, listed, holds, cls]

/-- Chair memberships and classes are replaced, and the classes of talker entries with them (R9, R10, R180). -/
theorem KeepsLaws.retag (s : State) (chair : PodId → Bool) (cls : PodId → Nat) (entry : Talker → Nat)
    (hchair : ∀ p, chair p = true → (s.pod p).chair = true ∨ (s.pod p).listed = true)
    (hcls : ∀ p, cls p = (s.pod p).cls ∨ cls p ≤ maxClass)
    (hentry : ∀ e : Talker, e.cls = (s.pod e.pod).cls → entry e = cls e.pod) :
    KeepsLaws false s { s.mapPods (fun p pod => { pod with chair := chair p, cls := cls p }) with
      talkers := s.talkers.map fun e : Talker => { e with cls := entry e } } := by
  have hpod : ∀ p, ({ s.mapPods (fun p pod => { pod with chair := chair p, cls := cls p }) with
      talkers := s.talkers.map fun e : Talker => { e with cls := entry e } } : State).pod p =
      { s.pod p with chair := chair p, cls := cls p } := fun p => by simp
  have hleg : ∀ m, ({ s.mapPods (fun p pod => { pod with chair := chair p, cls := cls p }) with
      talkers := s.talkers.map fun e : Talker => { e with cls := entry e } } : State).leg m = s.leg m := fun m => by simp
  have hport : ∀ q, ({ s.mapPods (fun p pod => { pod with chair := chair p, cls := cls p }) with
      talkers := s.talkers.map fun e : Talker => { e with cls := entry e } } : State).port q = s.port q := fun q => by simp
  refine KeepsLaws.of_records (known := True) ?_ (fun _ _ => trivial) (fun p => ?_) (fun m => ?_) (fun q => ?_)
    (fun hs => ?_) (fun h => ?_) (fun hs => ?_) (fun h => by cases h)
  · unfold RoomOnly; simp only [State.mapPods]
  · rw [hpod]; exact Pod.Kept.retag p _ _ _ (hchair p) (hcls p)
  · rw [hleg]; exact Leg.Kept.refl _
  · rw [hport]; exact Port.Kept.refl _
  · obtain ⟨hnodup, hlimit, hentries, hhold, htail, hlast⟩ := hs.talkers
    refine ⟨?_, ?_, fun e he => ?_, fun e he => ?_, fun e he => ?_, fun hl e he => ?_⟩
    · simpa [List.map_map, Function.comp_def] using hnodup
    · simpa using hlimit
    · obtain ⟨x, hx, rfl⟩ := List.mem_map.1 he
      obtain ⟨hu, hc⟩ := hentries x hx
      refine ⟨?_, ?_⟩
      · rw [← hu]
        exact State.unmuted_congr (by rw [hpod]) (by rw [hpod]) (by simp)
      · rw [hpod]; exact hentry x hc
    · obtain ⟨x, hx, rfl⟩ := List.mem_map.1 he
      exact hhold x hx
    · simp only [← List.map_tail] at he
      obtain ⟨x, hx, rfl⟩ := List.mem_map.1 he
      exact htail x hx
    · obtain ⟨x, hx, rfl⟩ := List.mem_map.1 he
      exact hlast (by simpa using hl) x hx
  · simp [h]
  · intro x hx hj hd
    rw [hpod]
    exact hs.2 x (by simpa using hx) hj hd

theorem State.mapPods_congr {s : State} {f g : PodId → Pod → Pod} (h : ∀ p, f p (s.pod p) = g p (s.pod p)) :
    s.mapPods f = s.mapPods g := by
  simp only [State.mapPods, h]

theorem KeepsLaws.setChairs (s : State) (word : Nat) (on : Bool) :
    KeepsLaws false s (s.setChairs (s.listedNamed word) on) := by
  unfold State.setChairs
  refine (KeepsLaws.mapPods s (fun p => ?_) (fun p => ?_) (fun p => ?_) fun p => ?_).trans (KeepsLaws.raiseIf _ _ _ _)
  · split
    · rename_i hp
      have hl : (s.pod p).listed = true := by
        simp only [State.listedNamed, PodSet.has_podSetWhere, Bool.and_eq_true] at hp; exact hp.2
      exact Pod.Kept.retag p (s.pod p) on _ (fun _ => .inr hl) (.inl rfl)
    · exact Pod.Kept.refl p _
  all_goals split <;> rfl

theorem KeepsLaws.setClass (s : State) (p : PodId) {c : Nat} (hc : c ≤ maxClass) : KeepsLaws false s (s.setClass p c) := by
  have h := KeepsLaws.retag s (fun k => (s.pod k).chair) (fun k => if k = p then c else (s.pod k).cls)
    (fun e => if e.pod = p then c else e.cls) (fun _ => .inl)
    (fun k => by
      by_cases hk : k = p
      · exact .inr (by simpa [hk] using hc)
      · exact .inl (if_neg hk))
    (fun e he => by simp [he])
  have hpods : (s.modPod p fun pod => { pod with cls := c }) =
      s.mapPods fun k pod => { pod with chair := (s.pod k).chair, cls := if k = p then c else (s.pod k).cls } :=
    State.mapPods_congr fun k => by split <;> rfl
  have htalkers : (s.talkers.map fun e : Talker => if e.pod = p then { e with cls := c } else e) =
      s.talkers.map fun e : Talker => { e with cls := if e.pod = p then c else e.cls } :=
    List.map_congr_left fun e _ => by split <;> rfl
  rw [State.setClass, hpods, htalkers]
  exact h

/-! ### Listing and unlisting (R6, R7) -/

/-- A slot that begins is of a listed pod (R131). -/
theorem KeepsLaws.withSlot (frames : Bool) (s : State) (x : Option Slot) (n : Nat)
    (h : s.slotSound → ∀ y ∈ x, y.judged = false → y.discard = false → (s.pod y.pod).listed = true) :
    KeepsLaws frames s { s with slot := x, lastPolled := n } :=
  KeepsLaws.of_records (known := True) rfl (fun _ _ => trivial) (fun p => Pod.Kept.refl p _) (fun _ => Leg.Kept.refl _)
    (fun _ => Port.Kept.refl _) State.lawful.talkers id (fun hs => h hs.2) (fun _ => rfl)

theorem KeepsLaws.beginSlot (frames : Bool) (s : State) {p : PodId} (h : (s.pod p).listed = true) :
    KeepsLaws frames s (s.beginSlot p) :=
  KeepsLaws.withSlot frames s _ _ fun _ y hy _ _ => by
    obtain rfl : _ = y := Option.some.inj hy
    exact h

theorem KeepsLaws.beginFirstSlot (before after : State) : KeepsLaws false after (beginFirstSlot before after) := by
  unfold Machine.beginFirstSlot
  split
  · split
    · exact KeepsLaws.refl _ _
    · rename_i p hp
      have hl : (after.pod p).listed = true := by simpa using List.find?_some hp
      exact (KeepsLaws.settle _ _).trans (KeepsLaws.beginSlot _ _ (by simpa using hl))
  · exact KeepsLaws.refl _ _

theorem KeepsLaws.listPods (s : State) (named : PodSet) : KeepsLaws false s (s.listPods named) := by
  unfold State.listPods
  dsimp only
  refine ((KeepsLaws.of_records (known := True) ?_ (fun _ _ => trivial) (fun p => ?_) (fun m => ?_) (fun q => ?_)
    (fun hs => ?_) (by simp) (fun hs => ?_) (fun h => by cases h)).trans ((KeepsLaws.raiseIf _ _ _ _).trans
      (KeepsLaws.raiseIf _ _ _ _))).trans (KeepsLaws.beginFirstSlot _ _)
  · unfold RoomOnly; simp only [State.mapPods]
  · rw [State.pod_mapPods]
    split
    · rename_i hp
      exact Pod.Kept.list p (by simp only [Bool.and_eq_true, Bool.not_eq_true'] at hp; exact hp.2)
    · exact Pod.Kept.refl p _
  · rw [State.leg_mapPods]; exact Leg.Kept.refl _
  · rw [State.port_mapPods]; exact Port.Kept.refl _
  · refine hs.talkers.of_sublist_same (by simp) (by simp) fun e he => ?_
    obtain ⟨hu, hc⟩ := hs.talkers.2.2.1 e (by simpa using he)
    have hl : (s.pod e.pod).listed = true := by
      simp only [State.unmuted, Bool.and_eq_true] at hu; exact hu.1
    have hsame : (s.mapPods fun p pod => if (PodSet.has named p && !(s.pod p).listed) = true then pod.list else pod).pod e.pod =
        s.pod e.pod := by rw [State.pod_mapPods, if_neg (by simp [hl])]
    exact ⟨(State.unmuted_congr (by rw [hsame]) (by rw [hsame]) (by simp)).trans hu, by rw [hsame, hc]⟩
  · intro x hx hj hd
    have hl := hs.2 x (by simpa using hx) hj hd
    simp [hl]

/-- The state with another talker list. -/
def State.withTalkers (s : State) (l : List Talker) : State := { s with talkers := l }

section
variable (s : State) (l : List Talker) (gone : PodId → Bool) (p : PodId) (m : LegId) (q : PortId)

@[simp] theorem State.pod_withTalkers : (s.withTalkers l).pod p = s.pod p := rfl
@[simp] theorem State.leg_withTalkers : (s.withTalkers l).leg m = s.leg m := rfl
@[simp] theorem State.port_withTalkers : (s.withTalkers l).port q = s.port q := rfl
@[simp] theorem State.talkers_withTalkers : (s.withTalkers l).talkers = l := rfl
@[simp] theorem State.slot_withTalkers : (s.withTalkers l).slot = s.slot := rfl
@[simp] theorem State.lastPolled_withTalkers : (s.withTalkers l).lastPolled = s.lastPolled := rfl

@[simp] theorem State.pod_unlistLink : (s.unlistLink gone).pod p = s.pod p := rfl
@[simp] theorem State.leg_unlistLink : (s.unlistLink gone).leg m = s.leg m := rfl
@[simp] theorem State.port_unlistLink : (s.unlistLink gone).port q = s.port q := rfl
@[simp] theorem State.talkers_unlistLink : (s.unlistLink gone).talkers = s.talkers := rfl
@[simp] theorem State.slot_unlistLink : (s.unlistLink gone).slot =
    s.slot.map fun x => if gone x.pod && !x.judged then { x with discard := true } else x := rfl
@[simp] theorem State.lastPolled_unlistLink : (s.unlistLink gone).lastPolled = if s.anyListed then s.lastPolled else 0 := rfl

/-- The records and the talker list once these pods are unlisted (R7). -/
def State.unlistRecords : State :=
  (s.withTalkers (s.talkers.filter fun e => !gone e.pod)).mapPods fun p pod => if gone p then pod.unlist else pod

/-- What the unlisting of these pods leaves before its notices (R7). -/
def State.unlisted : State :=
  if allPods.any gone then (s.unlistRecords gone).unlistLink gone else s.unlistRecords gone

@[simp] theorem State.pod_unlisted : (s.unlisted gone).pod p = if gone p then (s.pod p).unlist else s.pod p := by
  unfold State.unlisted
  split <;> simp [State.unlistRecords]

@[simp] theorem State.leg_unlisted : (s.unlisted gone).leg m = s.leg m := by
  unfold State.unlisted
  split <;> simp [State.unlistRecords]

@[simp] theorem State.port_unlisted : (s.unlisted gone).port q = s.port q := by
  unfold State.unlisted
  split <;> simp [State.unlistRecords]

@[simp] theorem State.talkers_unlisted : (s.unlisted gone).talkers = s.talkers.filter fun e => !gone e.pod := by
  unfold State.unlisted
  split <;> simp [State.unlistRecords]

theorem allPods_any_eq_false {gone : PodId → Bool} (h : ¬ allPods.any gone = true) (p : PodId) : gone p = false := by
  by_contra hp
  exact h (List.any_eq_true.2 ⟨p, List.mem_finRange p, by simpa using hp⟩)

@[simp] theorem State.slot_unlisted : (s.unlisted gone).slot =
    s.slot.map fun x => if gone x.pod && !x.judged then { x with discard := true } else x := by
  unfold State.unlisted
  split
  · simp [State.unlistRecords]
  · rename_i hnone
    simp [State.unlistRecords, allPods_any_eq_false hnone]

theorem State.unlisted_eq : s.unlisted gone = { s with
    pods := (s.unlisted gone).pods, talkers := (s.unlisted gone).talkers, slot := (s.unlisted gone).slot
    lastPolled := (s.unlisted gone).lastPolled } := by
  unfold State.unlisted
  split <;> simp only [State.unlistLink, State.unlistRecords, State.mapPods, State.withTalkers]

end

theorem KeepsLaws.unlisted (s : State) (gone : PodId → Bool) : KeepsLaws false s (s.unlisted gone) := by
  refine KeepsLaws.of_records (known := True) ?_ (fun _ _ => trivial) (fun p => ?_) (fun m => ?_) (fun q => ?_)
    (fun hs => ?_) (fun h => by rw [State.talkers_unlisted, h]; rfl) (fun hs x hx hj hd => ?_) (fun h => by cases h)
  · unfold RoomOnly; rw [State.unlisted_eq]
  · rw [State.pod_unlisted]
    split
    · exact Pod.Kept.unlist p _
    · exact Pod.Kept.refl p _
  · rw [State.leg_unlisted]; exact Leg.Kept.refl _
  · rw [State.port_unlisted]; exact Port.Kept.refl _
  · have hprivacy : (s.unlisted gone).privacy = s.privacy := by rw [State.unlisted_eq]
    refine hs.talkers.of_sublist_same (by rw [State.talkers_unlisted]; exact List.filter_sublist)
      (by rw [State.unlisted_eq]) fun e he => ?_
    rw [State.talkers_unlisted, List.mem_filter] at he
    obtain ⟨hmem, hstays⟩ := he
    obtain ⟨hu, hc⟩ := hs.talkers.2.2.1 e hmem
    have hsame : (s.unlisted gone).pod e.pod = s.pod e.pod := by
      rw [State.pod_unlisted, if_neg (by simpa using hstays)]
    exact ⟨(State.unmuted_congr (by rw [hsame]) (by rw [hsame]) hprivacy).trans hu, by rw [hsame, hc]⟩
  · rw [State.slot_unlisted] at hx
    obtain ⟨y, hy, rfl⟩ := Option.mem_map.1 hx
    split at hd
    · cases hd
    · rename_i hn
      rw [if_neg hn] at hj ⊢
      have hstays : ¬ gone y.pod = true := by simpa [hj] using hn
      rw [State.pod_unlisted, if_neg hstays]
      exact hs.2 y hy hj hd

/-- Unlisting, with its notices (R7). -/
theorem State.unlistPods_eq (s : State) (named : PodSet) : ∃ pods holds talkers faults, s.unlistPods named =
    ((((s.unlisted fun p => PodSet.has named p && (s.pod p).listed).raiseIf pods .pods).raiseIf holds .holds).raiseIf talkers
      .talkers).raiseIf faults .faults := ⟨_, _, _, _, rfl⟩

theorem KeepsLaws.unlistPods (s : State) (named : PodSet) : KeepsLaws false s (s.unlistPods named) := by
  obtain ⟨_, _, _, _, h⟩ := s.unlistPods_eq named
  rw [h]
  exact (KeepsLaws.unlisted s _).trans ((KeepsLaws.raiseIf _ _ _ _).trans
    ((KeepsLaws.raiseIf _ _ _ _).trans ((KeepsLaws.raiseIf _ _ _ _).trans (KeepsLaws.raiseIf _ _ _ _))))

/-! ### The profile load (R180) -/

theorem withSelf_has (x : PodSet) (p : PodId) : PodSet.has (withSelf x p) p = true := by
  simp [PodSet.has, withSelf]

@[simp] theorem State.pod_beginSlot (s : State) (p k : PodId) : (s.beginSlot p).pod k = s.pod k := rfl

@[simp] theorem listed_beginFirstSlot (before after : State) (p : PodId) :
    ((beginFirstSlot before after).pod p).listed = (after.pod p).listed := by
  unfold beginFirstSlot
  split
  · split <;> simp
  · rfl

theorem State.listed_listPods (s : State) (named : PodSet) (p : PodId) :
    ((s.listPods named).pod p).listed = (PodSet.has named p || (s.pod p).listed) := by
  unfold State.listPods
  dsimp only
  rw [listed_beginFirstSlot]
  cases hn : PodSet.has named p <;> cases hl : (s.pod p).listed <;> simp [hn, hl, Pod.list]

theorem State.listed_unlistPods (s : State) (named : PodSet) (p : PodId) :
    ((s.unlistPods named).pod p).listed = ((s.pod p).listed && !PodSet.has named p) := by
  obtain ⟨_, _, _, _, h⟩ := s.unlistPods_eq named
  rw [h]
  cases hn : PodSet.has named p <;> cases hl : (s.pod p).listed <;> simp [hn, hl, Pod.unlist]

theorem PodSet.has_not (x : PodSet) (p : PodId) : PodSet.has (~~~x) p = !PodSet.has x p := by
  simp [PodSet.has]

/-- The loaded chair set holds pods of the loaded roster alone (R180). -/
theorem State.loadedChairs_listed (s : State) {p : PodId} (h : PodSet.has s.loadedChairs p = true) :
    PodSet.has s.loadedRoster p = true := by
  unfold State.loadedChairs at h
  split at h
  · simp only [PodSet.has, BitVec.getLsbD_and, Bool.and_eq_true] at h
    exact h.2
  · simp [PodSet.has] at h

theorem State.loadedClass_le (s : State) (p : PodId) : s.loadedClass p ≤ maxClass := by
  unfold State.loadedClass
  split
  · exact Nat.min_le_left _ _
  · decide

theorem KeepsLaws.loadRoster (s : State) : KeepsLaws false s s.loadRoster := by
  unfold State.loadRoster
  dsimp only
  have hlisted : ∀ p, (((s.listPods s.loadedRoster).unlistPods (~~~s.loadedRoster)).pod p).listed =
      PodSet.has s.loadedRoster p := fun p => by
    rw [State.listed_unlistPods, State.listed_listPods, PodSet.has_not, Bool.not_not]
    cases PodSet.has s.loadedRoster p <;> simp
  have hlisting : KeepsLaws false s ((s.listPods s.loadedRoster).unlistPods (~~~s.loadedRoster)) :=
    (KeepsLaws.listPods s _).trans (KeepsLaws.unlistPods _ _)
  have htags := KeepsLaws.retag ((s.listPods s.loadedRoster).unlistPods (~~~s.loadedRoster))
    (fun p => PodSet.has s.loadedChairs p) s.loadedClass (fun e => s.loadedClass e.pod)
    (fun p hp => .inr ((hlisted p).trans (s.loadedChairs_listed hp))) (fun p => .inr (s.loadedClass_le p)) fun _ _ => rfl
  refine (hlisting.trans ?_).trans (KeepsLaws.raiseIf _ _ _ _)
  rw [State.talkers_mapPods]
  exact htags

theorem State.loadedTrim_le (s : State) (p : PodId) : s.loadedTrim p ≤ maxTrim := by
  unfold State.loadedTrim
  split
  · exact Nat.min_le_left _ _
  · decide

theorem State.loadedVolume_le (s : State) (p : PodId) : s.loadedVolume p ≤ unity := by
  unfold State.loadedVolume
  split
  · exact Nat.min_le_left _ _
  · exact le_rfl

theorem State.loadedLegGain_le (s : State) (m : LegId) : s.loadedLegGain m ≤ maxTrim := by
  unfold State.loadedLegGain
  split
  · exact Nat.min_le_left _ _
  · decide

theorem KeepsLaws.loadGains (s : State) : KeepsLaws false s s.loadGains :=
  (KeepsLaws.mapPods s
    (fun p => (Pod.Kept.setTrim p _ (s.loadedTrim_le p)).trans
      (Pod.Kept.retable p _ _ _ (.inr (withSelf_has _ p)) (.inr (s.loadedVolume_le p))))
    (fun _ => rfl) (fun _ => rfl) fun _ => rfl).trans
    (KeepsLaws.mapLegs _ fun m => ⟨fun _ => s.loadedLegGain_le m, id, id, id⟩)

theorem State.loadedParam_range (s : State) (x : Param) : x.range.1 ≤ s.loadedParam x ∧ s.loadedParam x ≤ x.range.2 := by
  unfold State.loadedParam
  split
  · exact Param.clamp_range x _
  · exact Tuning.defaults_range x

theorem KeepsLaws.loadTuning (s : State) : KeepsLaws false s s.loadTuning := by
  unfold State.loadTuning
  generalize loadOrder = xs
  induction xs generalizing s with
  | nil => exact KeepsLaws.refl _ _
  | cons x xs ih => exact (KeepsLaws.tune s x (s.loadedParam_range x)).trans (ih _)

theorem KeepsLaws.load (s : State) : KeepsLaws false s s.load :=
  (KeepsLaws.loadRoster s).trans ((KeepsLaws.loadGains _).trans (KeepsLaws.loadTuning _))

end Sys2Proof.Machine
end

section
/-! What an executed request leaves of the laws and of the queues, row by row. -/

namespace Sys2Proof.Machine

/-! ### The queues of the ports -/

/-- A port whose queues and transaction stand as they were. -/
def Port.sameQueues (a b : Port) : Prop := b.requests = a.requests ∧ b.replies = a.replies ∧ b.transaction = a.transaction

/-- The queues and the transaction of every port stand as they were. -/
def QueuesKept (s t : State) : Prop := ∀ q, (s.port q).sameQueues (t.port q)

@[simp] theorem Port.requests_notify (c : Category) (port : Port) : (port.notify c).requests = port.requests := by
  rw [Port.notify_eq]

@[simp] theorem Port.replies_notify (c : Category) (port : Port) : (port.notify c).replies = port.replies := by
  rw [Port.notify_eq]

theorem Port.sameQueues_refl (port : Port) : port.sameQueues port := ⟨rfl, rfl, rfl⟩

theorem Port.sameQueues_notify (port : Port) (c : Category) : port.sameQueues (port.notify c) := by
  rw [Port.notify_eq]; exact ⟨rfl, rfl, rfl⟩

theorem Port.sameQueues_notifyIf (port : Port) (c : Category) (b : Bool) : port.sameQueues (if b then port.notify c else port) := by
  cases b
  · exact port.sameQueues_refl
  · exact port.sameQueues_notify c

theorem Port.sameQueues.trans {a b c : Port} (hab : a.sameQueues b) (hbc : b.sameQueues c) : a.sameQueues c := by
  obtain ⟨hrequests, hreplies, htransaction⟩ := hab
  obtain ⟨hrequests', hreplies', htransaction'⟩ := hbc
  exact ⟨hrequests'.trans hrequests, hreplies'.trans hreplies, htransaction'.trans htransaction⟩

namespace QueuesKept

variable {s t u : State}

theorem refl (s : State) : QueuesKept s s := fun q => (s.port q).sameQueues_refl

theorem trans (hst : QueuesKept s t) (htu : QueuesKept t u) : QueuesKept s u := fun q => (hst q).trans (htu q)

theorem of_port (h : ∀ q, t.port q = s.port q) : QueuesKept s t := fun q => by rw [h q]; exact (s.port q).sameQueues_refl

theorem of_ports (h : t.ports = s.ports) : QueuesKept s t := of_port fun q => by rw [State.port, h, State.port]

theorem modPort (s : State) (q : PortId) {f : Port → Port} (h : (s.port q).sameQueues (f (s.port q))) :
    QueuesKept s (s.modPort q f) := fun k => by
  rw [State.port_modPort]
  split
  · rename_i hk; subst hk; exact h
  · exact (s.port k).sameQueues_refl

theorem raiseIf (s : State) (b : Bool) (c : Category) : QueuesKept s (s.raiseIf b c) := fun q => by
  rw [State.port_raiseIf]; exact (s.port q).sameQueues_notifyIf c b

theorem raise (s : State) (c : Category) : QueuesKept s (s.raise c) := raiseIf s true c

theorem raisePortsOthers (s : State) (q : PortId) : QueuesKept s (s.raisePortsOthers q) := fun k => by
  rw [State.port_raisePortsOthers]
  split
  · exact (s.port k).sameQueues_refl
  · exact Port.sameQueues_notify _ _

theorem settle (s : State) : QueuesKept s s.settle := fun q => by rw [State.port_settle]; exact ⟨rfl, rfl, rfl⟩

theorem takeHoldChange (before after : State) : QueuesKept after (takeHoldChange before after) := fun q => by
  rw [State.port_takeHoldChange]
  dsimp only
  split
  · exact (Port.sameQueues_notifyIf _ _ _).trans (Port.sameQueues_notify _ _)
  · exact Port.sameQueues_notifyIf _ _ _

theorem beginFirstSlot (before after : State) : QueuesKept after (beginFirstSlot before after) := by
  unfold Machine.beginFirstSlot
  split
  · split
    · exact refl _
    · exact (settle after).trans (of_ports rfl)
  · exact refl _

theorem listPods (s : State) (named : PodSet) : QueuesKept s (s.listPods named) := by
  unfold State.listPods
  exact (of_port fun q => State.port_mapPods ..).trans ((raiseIf _ _ _).trans ((raiseIf _ _ _).trans (beginFirstSlot _ _)))

theorem unlistPods (s : State) (named : PodSet) : QueuesKept s (s.unlistPods named) := by
  obtain ⟨_, _, _, _, h⟩ := s.unlistPods_eq named
  rw [h]
  exact (of_port fun q => State.port_unlisted ..).trans
    ((raiseIf _ _ _).trans ((raiseIf _ _ _).trans ((raiseIf _ _ _).trans (raiseIf _ _ _))))

theorem tune (s : State) (x : Param) (v : Nat) : QueuesKept s (s.tune x v) := by
  by_cases h : s.tuning.get x = v
  · rw [State.tune, if_pos h]; exact refl s
  · rw [State.tune_of_ne h]; exact (of_ports rfl : QueuesKept s (s.tuned x v)).trans (raiseIf _ _ _)

theorem load (s : State) : QueuesKept s s.load := by
  have hroster : QueuesKept s s.loadRoster := by
    unfold State.loadRoster
    dsimp only
    exact ((listPods s s.loadedRoster).trans (unlistPods _ (~~~s.loadedRoster))).trans
      ((of_port fun q => by simp).trans (raiseIf _ _ _))
  have hgains : ∀ t : State, QueuesKept t t.loadGains := fun t => of_port fun q => by simp [State.loadGains]
  have htuning : ∀ t : State, QueuesKept t t.loadTuning := fun t => by
    unfold State.loadTuning
    generalize loadOrder = xs
    induction xs generalizing t with
    | nil => exact refl t
    | cons x xs ih => exact (tune t x _).trans (ih _)
  exact hroster.trans ((hgains _).trans (htuning _))

end QueuesKept

/-! ### Executed requests -/

/-- An executed request keeps the laws and leaves the queues as they stood. -/
structure RequestKeeps (s t : State) : Prop where
  laws : KeepsLaws false s t
  queues : QueuesKept s t

namespace RequestKeeps

theorem refl (s : State) : RequestKeeps s s := ⟨KeepsLaws.refl _ s, QueuesKept.refl s⟩

theorem trans {s t u : State} (hst : RequestKeeps s t) (htu : RequestKeeps t u) : RequestKeeps s u :=
  ⟨hst.laws.trans htu.laws, hst.queues.trans htu.queues⟩

theorem raiseIf (s : State) (b : Bool) (c : Category) : RequestKeeps s (s.raiseIf b c) :=
  ⟨KeepsLaws.raiseIf _ s b c, QueuesKept.raiseIf s b c⟩

theorem raise (s : State) (c : Category) : RequestKeeps s (s.raise c) := raiseIf s true c

theorem raisePortsOthers (s : State) (q : PortId) : RequestKeeps s (s.raisePortsOthers q) :=
  ⟨KeepsLaws.raisePortsOthers _ s q, QueuesKept.raisePortsOthers s q⟩

theorem modPort (s : State) (q : PortId) {f : Port → Port} (h : (s.port q).Kept (f (s.port q)))
    (queues : (s.port q).sameQueues (f (s.port q))) :
    RequestKeeps s (s.modPort q f) :=
  ⟨KeepsLaws.modPort _ s q h, QueuesKept.modPort s q queues⟩

/-- A change of hold sets, passed through R21. -/
theorem takeHoldChange {s t : State} (h : HoldsMoved s t) (ports : t.ports = s.ports) :
    RequestKeeps s (takeHoldChange s t) :=
  ⟨h.keepsLaws, (QueuesKept.of_ports ports).trans (QueuesKept.takeHoldChange s t)⟩

/-- A change of pods and legs that keeps the laws. -/
theorem of_port {s t : State} (h : KeepsLaws false s t) (ports : ∀ q, t.port q = s.port q) : RequestKeeps s t :=
  ⟨h, QueuesKept.of_port ports⟩

end RequestKeeps

/-- An outcome of a request that is executed from `s` keeps the laws and the queues. -/
def Outcome.Kept (s : State) (o : Outcome) : Prop := ∀ a t, o = .ok (a, t) → RequestKeeps s t

namespace Outcome.Kept

variable {s t : State}

theorem refuse (x : Reason) : Outcome.Kept s (refuse x) := fun _ _ h => by cases h

theorem ensure {b : Bool} {x : Reason} {k : Outcome} (h : b = true → Outcome.Kept s k) : Outcome.Kept s (ensure b x k) := by
  cases b with
  | true => exact h rfl
  | false => exact refuse x

theorem ok {a : Answer} (h : RequestKeeps s t) : Outcome.Kept s (.ok (a, t)) := fun _ _ he => by
  cases he; exact h

theorem done {payload : List Byte} (h : RequestKeeps s t) : Outcome.Kept s (answerDone payload t) := ok h

theorem applied {same : Bool} {payload : List Byte} (h : RequestKeeps s t) : Outcome.Kept s (answerApplied same payload t) := ok h

/-- A request that changes nothing. -/
theorem read {payload : List Byte} : Outcome.Kept s (answerDone payload s) := done (RequestKeeps.refl s)

end Outcome.Kept

/-! ### MA's requests (R24 to R30) -/

theorem holdPods_keeps (q : PortId) (operands : List Byte) (s : State) {f : HoldSet → Option Role → HoldSet}
    (h : ∀ x role, (f x role).link = x.link) : (holdPods q operands s f).Kept s :=
  .applied (.takeHoldChange (.changePodHolds s _ fun _ => h _ _) (by simp [State.changePodHolds]))

theorem holdLegs_keeps (q : PortId) (operands : List Byte) (s : State) (f : LegHolds → Option Role → LegHolds) :
    (holdLegs q operands s f).Kept s :=
  .applied (.takeHoldChange (.changeLegHolds s _ _ _) (by simp [State.changeLegHolds]))

theorem holdChecks_keeps {q : PortId} {operands : List Byte} {s : State} {k : Outcome} (h : k.Kept s) :
    (holdChecks q operands s k).Kept s := .ensure fun _ => .ensure fun _ => .ensure fun _ => h

theorem requestHoldOff_keeps (q : PortId) (f : RequestFrame) (s : State) : (requestHoldOff q f s).Kept s := by
  refine holdChecks_keeps ?_
  split
  · exact holdPods_keeps q _ s HoldSet.link_removeRole
  · exact holdLegs_keeps q _ s _

theorem requestReleaseAll_keeps (q : PortId) (f : RequestFrame) (s : State) : (requestReleaseAll q f s).Kept s :=
  .ensure fun _ => .ensure fun _ =>
    .applied (.takeHoldChange (.changePodHolds s _ fun _ => rfl) (by simp [State.changePodHolds]))

theorem requestPrivacyOn_keeps (q : PortId) (f : RequestFrame) (s : State) : (requestPrivacyOn q f s).Kept s :=
  .ensure fun _ => .ensure fun _ => .done (.takeHoldChange (.withPrivacy s _) rfl)

theorem requestPrivacyOff_keeps (q : PortId) (f : RequestFrame) (s : State) : (requestPrivacyOff q f s).Kept s :=
  .ensure fun _ => .ensure fun _ => .done (.takeHoldChange (.withPrivacy s _) rfl)

/-! ### LEG_STATE (R119 to R121) -/

theorem requestLegState_keeps (q : PortId) (f : RequestFrame) (s : State) : (requestLegState q f s).Kept s := by
  refine .ensure fun _ => ?_
  split
  · exact .refuse _
  refine .ensure fun _ => ?_
  split
  · exact .refuse _
  · rename_i target _ _ _ m _
    unfold legTransition
    dsimp only
    split
    · exact .read
    · split
      · exact .refuse _
      · exact .done ((RequestKeeps.takeHoldChange (.setLegState s m target) (RoomChange.setLegState s m target).ports_eq).trans
          (.raise _ _))

/-! ### The room tables (R4 to R13) -/

theorem requestGainTrim_keeps (q : PortId) (f : RequestFrame) (s : State) : (requestGainTrim q f s).Kept s := by
  refine .ensure fun _ => .ensure fun _ => .ensure fun _ => ?_
  unfold gainPod
  split
  · exact .refuse _
  · rename_i p _
    exact .applied (.of_port (KeepsLaws.modPod s p (Pod.Kept.setTrim p _ (Nat.min_le_left _ _)) rfl rfl rfl) fun _ => State.port_modPod ..)

theorem requestGainVolume_keeps (q : PortId) (f : RequestFrame) (s : State) : (requestGainVolume q f s).Kept s := by
  refine .ensure fun _ => .ensure fun _ => .ensure fun _ => ?_
  unfold gainPod
  split
  · exact .refuse _
  · rename_i p _
    exact .applied (.of_port (KeepsLaws.modPod s p (Pod.Kept.retable p _ _ _ (.inl rfl) (.inr (Nat.min_le_left _ _))) rfl rfl rfl)
      fun _ => State.port_modPod ..)

theorem requestGainLegGain_keeps (q : PortId) (f : RequestFrame) (s : State) : (requestGainLegGain q f s).Kept s := by
  refine .ensure fun _ => .ensure fun _ => .ensure fun _ => ?_
  dsimp only
  split
  · refine .applied (.of_port (KeepsLaws.mapLegs s fun k => ?_) fun _ => State.port_modLeg ..)
    split
    · exact ⟨fun _ => Nat.min_le_left _ _, id, id, id⟩
    · exact Leg.Kept.refl _
  · exact .refuse _

theorem requestTuneSet_keeps (q : PortId) (f : RequestFrame) (s : State) : (requestTuneSet q f s).Kept s := by
  refine .ensure fun _ => .ensure fun _ => ?_
  split
  · exact .refuse _
  · exact .applied ⟨KeepsLaws.tune s _ (Param.clamp_range _ _), QueuesKept.tune s _ _⟩

theorem requestTuneQuery_keeps (q : PortId) (f : RequestFrame) (s : State) : (requestTuneQuery q f s).Kept s := by
  refine .ensure fun _ => .ensure fun _ => ?_
  split
  · exact .refuse _
  · exact .read

theorem rosterChecks_keeps {q : PortId} {operands : List Byte} {s : State} {k : Outcome} (h : k.Kept s) :
    (rosterChecks q operands s k).Kept s := .ensure fun _ => .ensure fun _ => .ensure fun _ => h

theorem requestRosterChair_keeps (q : PortId) (f : RequestFrame) (s : State) : (requestRosterChair q f s).Kept s :=
  rosterChecks_keeps (.applied ⟨KeepsLaws.setChairs s _ _, (QueuesKept.of_port fun _ => State.port_mapPods ..).trans (.raiseIf _ _ _)⟩)

theorem requestRosterClass_keeps (q : PortId) (f : RequestFrame) (s : State) : (requestRosterClass q f s).Kept s := by
  refine rosterChecks_keeps ?_
  split
  · exact .refuse _
  · rename_i p _
    exact .applied ((RequestKeeps.of_port (KeepsLaws.setClass s p (Nat.min_le_left _ _)) fun k => by simp [State.setClass]).trans
      (.raiseIf _ _ _))

theorem requestExclude_keeps (q : PortId) (f : RequestFrame) (s : State) : (requestExclude q f s).Kept s := by
  refine .ensure fun _ => .ensure fun _ => ?_
  split
  · exact .refuse _
  · rename_i p _
    exact .applied (.of_port (KeepsLaws.modPod s p (Pod.Kept.retable p _ _ _ (.inr (withSelf_has _ p)) (.inl rfl)) rfl rfl rfl)
      fun _ => State.port_modPod ..)

/-! ### The fault unit and the store (R170, R173 to R177, R181) -/

theorem FaultRecord.sound_clearIf {r : FaultRecord} (h : r.sound) (b : Bool) : (r.clearIf b).sound := fun hc => by
  have hc' : r.condition = true := hc
  simp [FaultRecord.clearIf, h hc', hc']

/-- A pod's records as CLEAR_FAULTS leaves them: an error counter is cleared with its condition, and a latch where there is none (R170). -/
theorem Pod.Kept.faultsCleared (s : State) (x : Selection) (p : PodId) : (s.pod p).Kept True p ((s.faultsCleared x).pod p) := by
  rw [State.pod_faultsCleared]
  refine ⟨id, id, fun _ => id, fun _ _ hf => ?_, id, le_rfl⟩
  obtain ⟨⟨hlost, hclip, hlocal, herrors⟩, hc, hl, hp, hcount, ht, hk, hf⟩ := hf
  refine ⟨⟨FaultRecord.sound_clearIf hlost _, FaultRecord.sound_clearIf hclip _, FaultRecord.sound_clearIf hlocal _, ?_⟩, hc, hl, hp, ?_⟩
  · split
    · exact fun h => by cases h
    · exact herrors
  · cases x.pod p 3
    · exact ⟨hcount, ht, hk, hf⟩
    · simp

theorem KeepsLaws.withDevice (s : State) {a : FaultRecord} (b : Bool) (hsound : s.audioClock.sound → a.sound)
    (hcond : a.condition = s.audioClock.condition) : KeepsLaws false s (s.withDevice a b) where
  tables := id
  legs := id
  gains := fun _ => id
  ports := id
  store := id
  link := State.lawful.link
  talkers := State.lawful.talkers
  lanes := State.lawful.lanes
  start := State.lawful.start
  faults := fun h => by
    obtain ⟨hp, hq, ha, hc⟩ := h.faults
    exact ⟨hp, hq, hsound ha, by rw [State.audioClock_withDevice, hcond]; exact hc⟩
  installer := rfl
  commits := fun _ _ _ => id
  calm := fun _ _ => le_rfl
  privacy := fun h => by cases h

theorem KeepsLaws.mapPorts (frames : Bool) (s : State) {f : PortId → Port → Port} (h : ∀ q, (s.port q).Kept (f q (s.port q))) :
    KeepsLaws frames s (s.mapPorts f) :=
  KeepsLaws.of_ports frames (by simp only [State.mapPorts]) fun q => by rw [State.port_mapPorts]; exact h q

/-- CLEAR_FAULTS keeps the laws (R170). -/
theorem KeepsLaws.faultsCleared (s : State) (x : Selection) : KeepsLaws false s (s.faultsCleared x) := by
  rw [State.faultsCleared_eq]
  refine (KeepsLaws.mapPods s (f := fun p _ => (s.faultsCleared x).pod p) (Pod.Kept.faultsCleared s x) (fun p => ?_) (fun p => ?_)
    fun p => ?_).trans ((KeepsLaws.withDevice _ _ ?_ ?_).trans (KeepsLaws.mapPorts _ _ fun k => ?_))
  · rw [State.pod_faultsCleared]
  · rw [State.pod_faultsCleared]
  · rw [State.pod_faultsCleared]
  · rw [State.audioClock_mapPods]; exact fun h => FaultRecord.sound_clearIf h _
  · rw [State.audioClock_mapPods]; rfl
  · exact ⟨id, .inl rfl, fun ⟨hs, hc⟩ => ⟨FaultRecord.sound_clearIf hs _, hc⟩⟩

theorem requestClearFaults_keeps (q : PortId) (f : RequestFrame) (s : State) : (requestClearFaults q f s).Kept s :=
  .ensure fun _ => .ensure fun _ => .applied
    (RequestKeeps.trans ⟨KeepsLaws.faultsCleared s _, fun k => by rw [State.port_faultsCleared]; exact ⟨rfl, rfl, rfl⟩⟩ (.raiseIf _ _ _))

/-- An operation in bounds begins (R173). -/
theorem KeepsLaws.beginOp (s : State) {op : StoreOp} (h : op.sound s.installer) : KeepsLaws false s { s with storeOp := op } where
  tables := id
  legs := id
  gains := fun _ => id
  ports := id
  store := fun hs => ⟨hs.1, h⟩
  link := State.lawful.link
  talkers := State.lawful.talkers
  lanes := State.lawful.lanes
  start := State.lawful.start
  faults := State.lawful.faults
  installer := rfl
  commits := fun _ _ _ => id
  calm := fun _ _ => le_rfl
  privacy := fun h => by cases h

theorem beginOp_keeps {s : State} {op : StoreOp} (payload : List Byte) (h : op.sound s.installer) : (beginOp op payload s).Kept s :=
  .ok (.of_port (KeepsLaws.beginOp s h) fun _ => rfl)

theorem requestStoreWrite_keeps (q : PortId) (f : RequestFrame) (s : State) : (requestStoreWrite q f s).Kept s :=
  .ensure fun _ => .ensure fun _ => .ensure fun haddress => .ensure fun _ => .ensure fun _ =>
    beginOp_keeps _ (write_within_page (of_decide_eq_true haddress) (List.length_take_le _ _))

theorem requestStoreCommit_keeps (q : PortId) (f : RequestFrame) (s : State) : (requestStoreCommit q f s).Kept s := by
  refine .ensure fun _ => .ensure fun _ => .ensure fun hsect => .ensure fun _ => ?_
  split
  · exact .read
  · exact beginOp_keeps _ (of_decide_eq_true hsect)

theorem requestStoreErase_keeps (q : PortId) (f : RequestFrame) (s : State) : (requestStoreErase q f s).Kept s :=
  .ensure fun _ => .ensure fun _ => .ensure fun hsect => .ensure fun hinstaller => .ensure fun _ =>
    beginOp_keeps _ ⟨of_decide_eq_true hsect, le_rfl, firstBlock_le_lastBlock _, hinstaller⟩

theorem requestProfileLoad_keeps (q : PortId) (f : RequestFrame) (s : State) : (requestProfileLoad q f s).Kept s :=
  .ensure fun _ => .ensure fun _ => .ensure fun _ => .ensure fun _ => .done ⟨KeepsLaws.load s, QueuesKept.load s⟩

/-! ### Reads (R161, R162, R168, R174) -/

theorem requestReadChannel_keeps (q : PortId) (f : RequestFrame) (s : State) : (requestReadChannel q f s).Kept s := by
  refine .ensure fun _ => .ensure fun _ => ?_
  split
  · exact .refuse _
  · exact .read

/-! ### The ports' own requests (R154 to R156, R159) -/

/-- A change of port records alone that keeps laws 8 and 10 and the PORT_LOST records. -/
theorem KeepsLaws.of_portRecords {s t : State} (h : t = { s with ports := t.ports }) (ports : s.portsSound → t.portsSound)
    (lost : ∀ q, (s.port q).lostFits → (t.port q).lostFits) : KeepsLaws false s t := by
  have hpod : ∀ p, t.pod p = s.pod p := fun p => by rw [h]; rfl
  have hleg : ∀ m, t.leg m = s.leg m := fun m => by rw [h]; rfl
  refine ⟨?_, ?_, ?_, ports, ?_, ?_, ?_, ?_, ?_, fun hs => ?_, by rw [h], ?_, fun _ p => by rw [hpod], fun hf => by cases hf⟩
  · rw [h]; exact id
  · rw [h]; exact id
  · rw [h]; exact fun _ => id
  · rw [h]; exact id
  · rw [h]; exact State.lawful.link
  · rw [h]; exact State.lawful.talkers
  · rw [h]; exact State.lawful.lanes
  · rw [h]; exact State.lawful.start
  · obtain ⟨hp, hq, hrest⟩ := (State.faultsSound_iff s).1 hs.faults
    refine (State.faultsSound_iff t).2 ⟨fun p => by rw [hpod]; exact hp p, fun q => lost q (hq q), ?_⟩
    rw [h]; exact hrest
  · rw [h]; exact fun _ _ _ => id

/-- A port as JOIN leaves it before notices, with PORT_LOST reported absent if it was ABSENT (R154). -/
def Port.joinedAs (port : Port) (role : Role) (presence : Nat) : Port :=
  { port.join role presence with portLost := if port.state = .absent then port.portLost.report false else port.portLost }

/-- JOIN changes its port's record, and raises PORTS at the others and, when a latched PORT_LOST ends, FAULTS (R154, R158). -/
theorem State.takeJoin_eq (s : State) (q : PortId) (role : Role) : s.takeJoin q role =
    ((s.modPort q fun port => port.joinedAs role s.tuning.presence).raisePortsOthers q).raiseIf
      (decide ((s.port q).state = .absent) && (s.port q).portLost.reportNotice false) .faults := by
  unfold State.takeJoin
  dsimp only
  split
  · rename_i habsent
    have hlost : (((s.modPort q fun port => port.join role s.tuning.presence).raisePortsOthers q).port q).portLost =
        (s.port q).portLost := by simp [Port.join]
    rw [State.reportPort, hlost, decide_eq_true habsent, Bool.true_and]
    simp only [State.modPort, State.raisePortsOthers, State.mapPorts_mapPorts]
    congr 1
    refine State.mapPorts_congr fun k => ?_
    by_cases hk : k = q
    · subst hk; simp [Port.joinedAs, habsent, Port.join]
    · simp [hk]
  · rename_i hpresent
    rw [decide_eq_false hpresent, Bool.false_and]
    simp only [State.modPort, State.raisePortsOthers, State.mapPorts_mapPorts, State.raiseIf, Bool.false_eq_true, if_false]
    refine State.mapPorts_congr fun k => ?_
    by_cases hk : k = q
    · subst hk; simp [Port.joinedAs, hpresent, Port.join]
    · simp [hk]

theorem State.roleTaken_eq_false_iff (s : State) (q : PortId) (role : Role) : s.roleTaken q role = false ↔
    (role = .view ∨ ∀ k, k ≠ q → (s.port k).joined = true → (s.port k).role ≠ some role) := by
  simp only [State.roleTaken, Bool.and_eq_false_iff, bne_eq_false_iff_eq, List.any_eq_false, allPorts, List.mem_finRange,
    forall_const, Bool.and_eq_true, bne_iff_ne, beq_iff_eq, not_and]
  exact or_congr_right ⟨fun h k hk hj => h k ⟨hk, hj⟩, fun h k ⟨hk, hj⟩ => h k hk hj⟩

/-- A claimed role leaves the roles of law 8 to one port each (R153, R154). -/
theorem State.portsSound_join {s : State} (h : s.portsSound) {q : PortId} {role : Role} (presence : Nat)
    (hfree : s.roleTaken q role = false) : (s.modPort q fun port => port.joinedAs role presence).portsSound := by
  rw [State.portsSound_iff] at h ⊢
  obtain ⟨hfits, hroles⟩ := h
  have hother : ∀ k, k ≠ q → (s.port k).role = some role → role = .view := fun k hk hr => by
    refine ((s.roleTaken_eq_false_iff q role).1 hfree).resolve_right fun hno => hno k hk ?_ hr
    rw [← (hfits k).1.1, hr]; rfl
  simp only [State.port_modPort]
  refine ⟨fun k => ?_, fun k j hne heq => ?_⟩
  · split
    · obtain ⟨-, -, -, -, hrequests, hreplies⟩ := hfits k
      exact ⟨⟨rfl, rfl⟩, fun hj => (by cases hj), le_rfl, BitVec.zero_and, hrequests, hreplies⟩
    · exact hfits k
  · by_cases hk : k = q
    · have hj : ¬ j = q := fun hj => hne (hk.trans hj.symm)
      rw [if_pos hk, if_neg hj] at heq
      rw [if_pos hk]
      exact .inr (congrArg some (hother j hj heq.symm))
    · rw [if_neg hk] at heq ⊢
      by_cases hj : j = q
      · rw [if_pos hj] at heq
        exact .inr (heq.trans (congrArg some (hother k hk heq)))
      · rw [if_neg hj] at heq
        exact hroles k j hne heq

theorem Port.lostFits.joinedAs {port : Port} (h : port.lostFits) (role : Role) (presence : Nat) :
    (port.joinedAs role presence).lostFits := by
  obtain ⟨hsound, hcond⟩ := h
  by_cases ha : port.state = .absent
  · have hlost : (port.joinedAs role presence).portLost = port.portLost.report false := if_pos ha
    refine ⟨by rw [hlost]; exact FaultRecord.sound_report _ _, ?_⟩
    rw [hlost, FaultRecord.condition_report]
    exact ⟨fun h => (by cases h), fun h => by cases h⟩
  · have hlost : (port.joinedAs role presence).portLost = port.portLost := if_neg ha
    refine ⟨by rw [hlost]; exact hsound, ?_⟩
    rw [hlost, hcond]
    exact ⟨fun h => absurd h ha, fun h => by cases h⟩

theorem RequestKeeps.takeJoin (s : State) (q : PortId) {role : Role} (hfree : s.roleTaken q role = false) :
    RequestKeeps s (s.takeJoin q role) := by
  rw [State.takeJoin_eq]
  refine (RequestKeeps.mk (KeepsLaws.of_portRecords (by simp only [State.modPort, State.mapPorts])
    (fun h => State.portsSound_join h _ hfree) fun k h => ?_) (QueuesKept.modPort s q ⟨rfl, rfl, rfl⟩)).trans
    ((RequestKeeps.raisePortsOthers _ q).trans (RequestKeeps.raiseIf _ _ _))
  rw [State.port_modPort]
  split
  · exact Port.lostFits.joinedAs h _ _
  · exact h

theorem requestJoin_keeps (q : PortId) (f : RequestFrame) (s : State) : (requestJoin q f s).Kept s := by
  refine .ensure fun _ => ?_
  split
  · exact .refuse _
  · exact .ensure fun _ => .ensure fun hfree => .done (RequestKeeps.takeJoin s q (by simpa using hfree))

/-- A joined port that gives up its role (R155). -/
theorem Port.Kept.vacate {port : Port} (hj : port.joined = true) : port.Kept (port.vacate .detached) where
  fits := fun ⟨_, _, _, _, hrequests, hreplies⟩ =>
    ⟨⟨rfl, rfl⟩, fun _ => ⟨rfl, rfl, rfl⟩, le_rfl, BitVec.zero_and, hrequests, hreplies⟩
  role := .inr rfl
  lost := fun ⟨hsound, hcond⟩ => ⟨hsound, hcond.trans ⟨fun h => by simp [Port.joined, h] at hj, fun h => by cases h⟩⟩

theorem RequestKeeps.takeLeave (s : State) (q : PortId) (hj : (s.port q).joined = true) : RequestKeeps s (s.takeLeave q) := by
  have hmoved := (HoldsMoved.modPort s q (f := fun port => port.vacate .detached) (Port.Kept.vacate hj)).trans
    ((HoldsMoved.dropRoleHolds _ (s.port q).role).trans (HoldsMoved.vacateLegs _ (s.port q).role))
  have hqueues : QueuesKept s (((s.modPort q fun port => port.vacate .detached).dropRoleHolds (s.port q).role).vacateLegs
      (s.port q).role) :=
    (QueuesKept.modPort s q ⟨rfl, rfl, rfl⟩).trans (QueuesKept.of_ports (RoomChange.roleGone _ _).ports_eq)
  unfold State.takeLeave takeVacancy
  exact (RequestKeeps.mk hmoved.keepsLaws (hqueues.trans (QueuesKept.takeHoldChange _ _))).trans
    ((RequestKeeps.raiseIf _ _ _).trans (RequestKeeps.raisePortsOthers _ q))

/-- A joined port that is ATTACHED or STALE after a change of its phase and timer (R156, R157). -/
theorem Port.Kept.present {port : Port} (hj : port.joined = true) {state : PortState} (hstate : state = .attached ∨ state = .stale)
    {phase : Nat} (hphase : phase ≤ 1) (presence : Nat) :
    port.Kept { port with state := state, lastPhase := phase, timer := some presence } where
  fits := fun ⟨⟨hrole, _⟩, _, _, hmask, hqueues⟩ => by
    have hjoined : ({ port with state := state, lastPhase := phase, timer := some presence } : Port).joined = true := by
      rcases hstate with rfl | rfl <;> rfl
    exact ⟨⟨(hrole.trans hj).trans hjoined.symm, hjoined.symm⟩, fun h => absurd (hjoined.symm.trans h) (by decide), hphase, hmask, hqueues⟩
  role := .inl rfl
  lost := fun ⟨hsound, hcond⟩ => by
    have habsent : port.state ≠ .absent := fun h => by simp [Port.joined, h] at hj
    refine ⟨hsound, hcond.trans ⟨fun h => absurd h habsent, fun h => ?_⟩⟩
    rcases hstate with rfl | rfl <;> cases h

theorem requestPulse_keeps {q : PortId} (f : RequestFrame) {s : State} (hj : (s.port q).joined = true) :
    (requestPulse q f s).Kept s := by
  refine .ensure fun _ => .ensure fun hphase => .ensure fun _ => .done ?_
  have hport := RequestKeeps.modPort s q (f := fun port =>
    { port with state := .attached, lastPhase := number f.operands, timer := some s.tuning.presence })
    (Port.Kept.present hj (.inl rfl) (of_decide_eq_true hphase) _) ⟨rfl, rfl, rfl⟩
  unfold State.takePulse
  dsimp only
  split
  · exact hport.trans (RequestKeeps.raisePortsOthers _ q)
  · exact hport

/-- A watch mask and the pending set it leaves (R159). -/
theorem Port.Kept.watching {port : Port} (hj : port.joined = true) (mask pending : CategorySet) (h : pending &&& mask = pending) :
    port.Kept { port with mask := mask, pendingSet := pending } where
  fits := fun ⟨hroles, _, hphase, _, hqueues⟩ => ⟨hroles, fun hn => absurd (hj.symm.trans hn) (by decide), hphase, h, hqueues⟩
  role := .inl rfl
  lost := id

theorem requestNotices_keeps {q : PortId} (f : RequestFrame) {s : State} (hj : (s.port q).joined = true) :
    (requestNotices q f s).Kept s :=
  .ensure fun _ => .ensure fun _ => .done (.modPort s q (Port.Kept.watching hj _ _ BitVec.zero_and) ⟨rfl, rfl, rfl⟩)

theorem requestWatch_keeps {q : PortId} (f : RequestFrame) {s : State} (hj : (s.port q).joined = true) :
    (requestWatch q f s).Kept s :=
  .ensure fun _ => .ensure fun _ => .applied
    (.modPort s q (Port.Kept.watching hj _ _ (by rw [BitVec.and_assoc, BitVec.and_self])) ⟨rfl, rfl, rfl⟩)

/-! ### Every row -/

/-- Every request that is executed at a port it is open to keeps the laws and the queues. -/
theorem requestOf_keeps (row : RequestRow) {q : PortId} (f : RequestFrame) {s : State}
    (hj : row.openToAll = true ∨ (s.port q).joined = true) : (requestOf row q f s).Kept s := by
  cases row with
  | badFrame => exact .refuse _
  | unknown => exact .refuse _
  | join => exact requestJoin_keeps q f s
  | leave => exact .ensure fun _ => .done (.takeLeave s q (hj.resolve_left (by decide)))
  | pulse => exact requestPulse_keeps f (hj.resolve_left (by decide))
  | notices => exact requestNotices_keeps f (hj.resolve_left (by decide))
  | watch => exact requestWatch_keeps f (hj.resolve_left (by decide))
  | ident => exact .ensure fun _ => .read
  | holdOnPods => exact holdChecks_keeps (holdPods_keeps q _ s HoldSet.link_addRole)
  | holdOnLegs => exact holdChecks_keeps (holdLegs_keeps q _ s _)
  | holdOff => exact requestHoldOff_keeps q f s
  | releaseAll => exact requestReleaseAll_keeps q f s
  | privacyOn => exact requestPrivacyOn_keeps q f s
  | privacyOff => exact requestPrivacyOff_keeps q f s
  | legState => exact requestLegState_keeps q f s
  | gainTrim => exact requestGainTrim_keeps q f s
  | gainVolume => exact requestGainVolume_keeps q f s
  | gainLegGain => exact requestGainLegGain_keeps q f s
  | tuneSet => exact requestTuneSet_keeps q f s
  | tuneQuery => exact requestTuneQuery_keeps q f s
  | rosterList => exact rosterChecks_keeps (.applied ⟨KeepsLaws.listPods s _, QueuesKept.listPods s _⟩)
  | rosterUnlist => exact rosterChecks_keeps (.applied ⟨KeepsLaws.unlistPods s _, QueuesKept.unlistPods s _⟩)
  | rosterChair => exact requestRosterChair_keeps q f s
  | rosterClass => exact requestRosterClass_keeps q f s
  | exclude => exact requestExclude_keeps q f s
  | readChannel => exact requestReadChannel_keeps q f s
  | readTalkers => exact .ensure fun _ => .ensure fun _ => .read
  | readLegs => exact .ensure fun _ => .ensure fun _ => .read
  | readPorts => exact .ensure fun _ => .ensure fun _ => .read
  | readFaults => exact .ensure fun _ => .ensure fun _ => .read
  | readRoom => exact .ensure fun _ => .ensure fun _ => .read
  | clearFaults => exact requestClearFaults_keeps q f s
  | storeRead => exact .ensure fun _ => .ensure fun _ => .ensure fun _ => .ok (.refl s)
  | storeStatus => exact .ensure fun _ => .ensure fun _ => .read
  | storeWrite => exact requestStoreWrite_keeps q f s
  | storeCommit => exact requestStoreCommit_keeps q f s
  | storeErase => exact requestStoreErase_keeps q f s
  | profileLoad => exact requestProfileLoad_keeps q f s

end Sys2Proof.Machine
end

section
/-! Turns, transactions and presence keep the laws. -/

namespace Sys2Proof.Machine

/-! ### Turns (R150, R151) -/

/-- The command of a request row is the turn of a frame of that row (R151). -/
theorem exec_command (row : RequestRow) (q : PortId) (s : State) :
    exec (row.command q) s = .next (takeTurn row (requestOf row) q s) := by
  cases row <;> rfl

theorem KeepsLaws.headTaken (s : State) (q : PortId) {f : RequestFrame} {rest : List RequestFrame}
    (h : (s.port q).requests = f :: rest) : KeepsLaws false s (s.headTaken q rest) :=
  KeepsLaws.modPort _ s q ⟨fun ⟨hroles, hgone, hphase, hmask, hrequests, hreplies⟩ =>
    ⟨hroles, hgone, hphase, hmask, (Nat.le_succ _).trans (by rwa [h] at hrequests), hreplies⟩, .inl rfl, id⟩

theorem KeepsLaws.queueReply (s : State) (q : PortId) (r : Reply) (h : (s.port q).replies.length < 4) :
    KeepsLaws false s (s.queueReply q r) :=
  KeepsLaws.modPort _ s q ⟨fun ⟨hroles, hgone, hphase, hmask, hrequests, _⟩ =>
    ⟨hroles, hgone, hphase, hmask, hrequests, by simpa using Nat.succ_le_of_lt h⟩, .inl rfl, id⟩

@[simp] theorem State.replies_headTaken (s : State) (q k : PortId) (rest : List RequestFrame) :
    ((s.headTaken q rest).port k).replies = (s.port k).replies := by
  rw [State.headTaken, State.port_modPort]; split <;> rfl

/-- What a frame gives at its turn, when it is executed, keeps the laws and the queues. -/
theorem outcomeOf_keeps (row : RequestRow) (q : PortId) (f : RequestFrame) (s : State) :
    (outcomeOf row (requestOf row) q f s).Kept s :=
  .ensure fun h => requestOf_keeps row f (by simpa using h)

theorem KeepsLaws.takeTurn (row : RequestRow) (q : PortId) (s : State) :
    KeepsLaws false s (takeTurn row (requestOf row) q s) := by
  rcases takeTurn_cases s q row (requestOf row) with h | ⟨f, rest, hrequests, hroom, -, h⟩
  · rw [h]; exact KeepsLaws.refl _ s
  have hhead := KeepsLaws.headTaken s q hrequests
  have hroom' : ((s.headTaken q rest).port q).replies.length < 4 := by rwa [State.replies_headTaken]
  rcases h with ⟨x, -, h⟩ | ⟨a, t, hok, h⟩
  · rw [h]
    exact hhead.trans ((KeepsLaws.queueReply _ q _ hroom').trans (KeepsLaws.settle _ _))
  · obtain ⟨hlaws, hqueues⟩ := outcomeOf_keeps row q f (s.headTaken q rest) a t hok
    rw [h]
    refine hhead.trans (hlaws.trans ((KeepsLaws.queueReply _ q _ ?_).trans (KeepsLaws.settle _ _)))
    obtain ⟨-, hreplies, -⟩ := hqueues q
    rwa [hreplies]

theorem KeepsLaws.takeHead (q : PortId) (s : State) : KeepsLaws false s (takeHead q s) := by
  unfold Machine.takeHead
  split
  · exact KeepsLaws.refl _ s
  · exact KeepsLaws.takeTurn _ q s

/-! ### Transactions (R147 to R150) -/

theorem KeepsLaws.completeShift (q : PortId) (s : State) : KeepsLaws false s (completeShift q s) := by
  unfold Machine.completeShift
  split
  · exact KeepsLaws.refl _ s
  · rename_i t _
    split
    · exact KeepsLaws.refl _ s
    · have hshift : KeepsLaws false s (s.modPort q fun port => port.afterShift t).settle := by
        refine (KeepsLaws.modPort _ s q ⟨fun ⟨hroles, hgone, hphase, hmask, hrequests, hreplies⟩ =>
          ⟨hroles, hgone, hphase, hmask, hrequests, ?_⟩, .inl rfl, id⟩).trans (KeepsLaws.settle _ _)
        simp only [Port.afterShift]
        split
        · rw [List.length_tail]; omega
        · exact hreplies
      dsimp only
      split
      · exact hshift.trans (KeepsLaws.takeHead q _)
      · exact hshift

/-- A deselection leaves the queues within their limits (R150). -/
theorem Port.Kept.deselect (port : Port) (t : Transaction) (clocked : List Bool) : port.Kept (port.deselect t clocked) := by
  have hended : port.Kept { port with transaction := none, lastSent := shiftedOut t.frame clocked.length } := ⟨id, .inl rfl, id⟩
  unfold Port.deselect
  dsimp only
  split
  · exact hended
  · unfold Port.receive
    split
    · rename_i hroom
      refine hended.trans ⟨fun ⟨hroles, hgone, hphase, hmask, _, hreplies⟩ => ⟨hroles, hgone, hphase, hmask, ?_, hreplies⟩, .inl rfl, id⟩
      rw [List.length_append]
      exact Nat.succ_le_of_lt hroom
    · exact hended.trans ⟨id, .inl rfl, id⟩

/-! ### Presence (R157) -/

/-- A joined port as the second expiry leaves it before notices (R157, R167). -/
def Port.lostAt (port : Port) : Port := { port.vacate .absent with portLost := port.portLost.report true }

@[simp] theorem Port.portLost_notify (c : Category) (port : Port) : (port.notify c).portLost = port.portLost := by
  rw [Port.notify_eq]

@[simp] theorem portLost_takeHoldChange (before after : State) (q : PortId) :
    ((takeHoldChange before after).port q).portLost = (after.port q).portLost := by
  rw [State.port_takeHoldChange]
  split <;> split <;> simp

theorem Port.lostAt_notify (c : Category) (port : Port) : (port.notify c).lostAt = port.lostAt := by
  rw [Port.notify_eq]; rfl

theorem State.vacateLegs_vacated (s : State) (q : PortId) (state : PortState) (role : Option Role) :
    (s.vacated q state).vacateLegs role = (s.vacateLegs role).vacated q state := by
  simp only [State.vacated, State.modPort, State.vacateLegs, State.closeLegs_mapPorts]
  split <;> rfl

/-- The report of PORT_LOST by a port that has just given its role up (R157, R167). -/
theorem State.reportPort_vacated (s : State) (q : PortId) : ((s.vacated q .absent).reportPort q true).raisePortsOthers q =
    ((s.raiseIf ((s.port q).portLost.reportNotice true) .faults).raise .ports).modPort q Port.lostAt := by
  have hlost : ((s.vacated q .absent).port q).portLost = (s.port q).portLost := by simp [State.vacated, Port.vacate]
  rw [State.reportPort, hlost]
  simp only [State.raiseIf_eq_mapPorts, State.raisePortsOthers, State.raise, State.vacated, State.modPort, State.mapPorts_mapPorts]
  refine State.mapPorts_congr fun k => ?_
  by_cases hk : k = q
  · subst hk
    have hgone : ∀ port : Port, ({ port.vacate .absent with portLost := (port.vacate .absent).portLost.report true } : Port).notify
        .faults = port.lostAt := fun _ => rfl
    simp only [if_true, Port.lostAt_notify]
    split
    · rw [hgone, Port.lostAt_notify]
    · rfl
  · simp [hk]

/-- What the second expiry sets in motion before the port gives its role up: the vacancy without its port, and the notices (R125, R157). -/
def State.vacancy (s : State) (q : PortId) : State :=
  (((takeHoldChange s (s.vacateLegs (s.port q).role)).raiseIf ((s.port q).role == some .call && s.anyLegActive) .legs).raiseIf
    ((s.port q).portLost.reportNotice true) .faults).raise .ports

/-- The port that turns ABSENT takes no part in what the vacancy of its role sets in motion (R125, R157). -/
theorem State.enterAbsent_eq (s : State) (q : PortId) : s.enterAbsent q = (s.vacancy q).modPort q Port.lostAt := by
  have habsent : ∀ port : Port, (port.vacate .absent).joined = false := fun _ => rfl
  have hport : (s.vacateLegs (s.port q).role).port q = s.port q := by
    rw [State.port, (RoomChange.vacateLegs s _).ports_eq, State.port]
  rw [State.enterAbsent, takeVacancy, ← State.vacated, State.vacateLegs_vacated, takeHoldChange_vacated habsent,
    State.raiseIf_vacated habsent, State.reportPort_vacated, State.vacancy]
  simp only [State.port_raiseIf]
  congr 3
  split <;> simp [hport]

theorem KeepsLaws.enterAbsent (s : State) (q : PortId) : KeepsLaws false s (s.enterAbsent q) := by
  rw [State.enterAbsent_eq, State.vacancy]
  refine (HoldsMoved.vacateLegs s _).keepsLaws.trans ((KeepsLaws.raiseIf _ _ _ _).trans ((KeepsLaws.raiseIf _ _ _ _).trans
    ((KeepsLaws.raise _ _ _).trans (KeepsLaws.modPort _ _ q ⟨?_, .inr rfl, fun _ => ⟨fun _ => rfl, fun _ => rfl, fun _ => rfl⟩⟩))))
  exact fun ⟨_, _, _, _, hrequests, hreplies⟩ =>
    ⟨⟨rfl, rfl⟩, fun _ => ⟨rfl, rfl, rfl⟩, le_rfl, BitVec.zero_and, hrequests, hreplies⟩

theorem KeepsLaws.enterStale (s : State) (q : PortId) (hj : (s.port q).joined = true) : KeepsLaws false s (s.enterStale q) :=
  (KeepsLaws.modPort _ s q (Port.Kept.present hj (.inr rfl) le_rfl _)).trans (KeepsLaws.raisePortsOthers _ _ q)

/-! ### The ends of store operations (R173, R175 to R178) -/

/-- A change of the store unit's fields and the model's free-value index alone. -/
theorem KeepsLaws.of_store {s t : State} (h : t = { s with
      store := t.store, commitMap := t.commitMap, storeOp := t.storeOp, lateStores := t.lateStores, lateBlocks := t.lateBlocks
      lastResult := t.lastResult, storeTimeout := t.storeTimeout, freeCount := t.freeCount })
    (store : s.storeSound → t.storeSound)
    (commits : s.storeSound → s.installer = false → ∀ x, s.commitMap.getLsbD x = true → t.commitMap.getLsbD x = true) :
    KeepsLaws false s t := by
  refine ⟨?_, ?_, ?_, ?_, store, ?_, ?_, ?_, ?_, ?_, by rw [h], commits, ?_, fun hf => by cases hf⟩
  · rw [h]; exact id
  · rw [h]; exact id
  · rw [h]; exact fun _ => id
  · rw [h]; exact id
  · rw [h]; exact State.lawful.link
  · rw [h]; exact State.lawful.talkers
  · rw [h]; exact State.lawful.lanes
  · rw [h]; exact State.lawful.start
  · rw [h]; exact State.lawful.faults
  · rw [h]; exact fun _ _ => le_rfl

/-- A section becomes COMMITTED, and no section BLANK (R176). -/
theorem commitSection_mono {m : BitVec 8} {x : Nat} (sect : Nat) (h : m.getLsbD x = true) : (commitSection m sect).getLsbD x = true := by
  simp [commitSection, h]

theorem KeepsLaws.execStoreCompletion {s t : State} (h : execStoreCompletion s = .next t) : KeepsLaws false s t := by
  unfold Machine.execStoreCompletion at h
  split at h
  · cases h
    exact KeepsLaws.of_store rfl id fun _ _ _ => id
  split at h
  · rename_i address data hop
    cases h
    refine (KeepsLaws.of_store (s := s) (t := { s with store := Memory.writeMany s.store address data, storeOp := .idle, lastResult := .ok })
      rfl (fun hs => ?_) fun _ _ _ => id).trans ((KeepsLaws.raise _ _ _).trans (KeepsLaws.settle _ _))
    obtain ⟨hwf, hbound⟩ := hs
    rw [hop] at hbound
    exact ⟨Memory.wf_writeMany hwf hbound, trivial⟩
  · rename_i sect hop
    cases h
    exact (KeepsLaws.of_store (s := s) (t := { s with commitMap := commitSection s.commitMap sect, storeOp := .idle, lastResult := .ok })
      rfl (fun hs => ⟨hs.1, trivial⟩) fun _ _ _ => commitSection_mono sect).trans ((KeepsLaws.raise _ _ _).trans (KeepsLaws.settle _ _))
  · cases h; exact KeepsLaws.refl _ s
  · cases h; exact KeepsLaws.refl _ s

theorem KeepsLaws.execEraseBlockCompletion {s t : State} (h : execEraseBlockCompletion s = .next t) : KeepsLaws false s t := by
  unfold Machine.execEraseBlockCompletion at h
  split at h
  · cases h
    exact KeepsLaws.of_store rfl id fun _ _ _ => id
  split at h
  · rename_i sect block hop
    have herasing : s.storeSound → sect ≤ maxSection ∧ firstBlock sect ≤ block ∧ block ≤ lastBlock sect ∧ s.installer = true :=
      fun hs => by have hbound := hs.2; rw [hop] at hbound; exact hbound
    have herased : s.storeSound → Memory.wf (eraseBlock s.store block) = true := fun hs =>
      wf_eraseBlock hs.1 ((herasing hs).2.2.1.trans_lt (lastBlock_lt sect))
    generalize eraseBlock s.store block = erased at h herased
    split at h
    · rename_i hmore
      cases h
      refine KeepsLaws.of_store rfl (fun hs => ?_) fun _ _ _ => id
      obtain ⟨hsect, hfirst, -, hinstaller⟩ := herasing hs
      exact ⟨herased hs, hsect, hfirst.trans (Nat.le_succ _), hmore, hinstaller⟩
    · cases h
      refine (KeepsLaws.of_store (s := s) (t := { s with
          store := erased, commitMap := blankSection s.commitMap sect, storeOp := .idle, lastResult := .ok })
        rfl (fun hs => ⟨herased hs, trivial⟩) fun hs hi => ?_).trans ((KeepsLaws.raise _ _ _).trans (KeepsLaws.settle _ _))
      obtain ⟨-, -, -, hinstaller⟩ := herasing hs
      rw [hinstaller] at hi
      cases hi
  · cases h; exact KeepsLaws.refl _ s
  · cases h; exact KeepsLaws.refl _ s
  · cases h; exact KeepsLaws.refl _ s

/-- What an operation cut short leaves is in canonical form (R178, R179). -/
theorem State.wf_tornStore {s : State} (h : s.storeSound) : Memory.wf s.tornStore = true := by
  obtain ⟨hwf, hbound⟩ := h
  unfold State.tornStore
  split
  · exact hwf
  · exact hwf
  · rename_i address data hop
    rw [hop] at hbound
    exact wf_tornWrite hwf hbound
  · rename_i sect block hop
    rw [hop] at hbound
    obtain ⟨-, -, hlast, -⟩ := hbound
    have hblock := hlast.trans_lt (lastBlock_lt sect)
    refine wf_tornWrite hwf ?_
    rw [List.length_replicate, blockSize, storeSize]
    omega

theorem KeepsLaws.execOperationTimeout {s t : State} (h : execOperationTimeout s = .next t) : KeepsLaws false s t := by
  unfold Machine.execOperationTimeout at h
  split at h
  · cases h; exact KeepsLaws.refl _ s
  · cases h
    exact (KeepsLaws.of_store (s := s) (t := { s with
        store := s.tornStore, storeTimeout := true, freeCount := s.freeCount + 1
        lateStores := s.lateStores + (!s.storeOp.erases).toNat, lateBlocks := s.lateBlocks + s.storeOp.erases.toNat
        storeOp := .idle, lastResult := .failed })
      rfl (fun hs => ⟨State.wf_tornStore hs, trivial⟩) fun _ _ _ => id).trans
      ((KeepsLaws.raise _ _ _).trans ((KeepsLaws.raiseIf _ _ _ _).trans (KeepsLaws.settle _ _)))

end Sys2Proof.Machine
end

section
/-! The judgement of a slot as one change of its pod's record with its notices, and the slots of the pod link: both keep the laws. -/

namespace Sys2Proof.Machine

/-! ### Fault records take no part in what MA reads -/

theorem State.mapPods_mapPods (s : State) (f g : PodId → Pod → Pod) :
    (s.mapPods f).mapPods g = s.mapPods fun p pod => g p (f p pod) :=
  State.ext_records (by simp) (by simp) (by simp) (by simp only [State.mapPods])

theorem State.modPod_mapPods_comm (s : State) (p : PodId) {g : Pod → Pod} {f : PodId → Pod → Pod}
    (h : ∀ k pod, f k (g pod) = g (f k pod)) : (s.modPod p g).mapPods f = (s.mapPods f).modPod p g := by
  rw [State.modPod, State.modPod, State.mapPods_mapPods, State.mapPods_mapPods]
  refine State.mapPods_congr fun k => ?_
  split
  · exact h _ _
  · rfl

theorem State.modPod_raiseIf (s : State) (p : PodId) (g : Pod → Pod) (b : Bool) (c : Category) :
    (s.modPod p g).raiseIf b c = (s.raiseIf b c).modPod p g := by
  simp only [State.raiseIf_eq_mapPorts, State.modPod, State.mapPods_mapPorts]

/-- A change of fault records passes through R21 untouched. -/
theorem takeHoldChange_modPod_after (before after : State) (p : PodId) (g : Pod → Pod)
    (listed : ∀ pod, (g pod).listed = pod.listed) (holds : ∀ pod, (g pod).holds = pod.holds)
    (flag : ∀ (pod : Pod) (b : Bool), { g pod with mutedTalk := (g pod).mutedTalk && b } =
      g { pod with mutedTalk := pod.mutedTalk && b }) (talk : ∀ pod, (g pod).mutedTalk = pod.mutedTalk) :
    takeHoldChange before (after.modPod p g) = (takeHoldChange before after).modPod p g := by
  have hpod : ∀ k, ((after.modPod p g).pod k).holds = (after.pod k).holds ∧ ((after.modPod p g).pod k).listed = (after.pod k).listed ∧
      ((after.modPod p g).pod k).mutedTalk = (after.pod k).mutedTalk := fun k => by
    rw [State.pod_modPod]; split <;> simp [listed, holds, talk]
  have hmuted : ∀ k, (after.modPod p g).muted k = after.muted k := fun k =>
    State.muted_congr (hpod k).2.1 (hpod k).1 (by simp)
  have hunmuted : ∀ k, (after.modPod p g).unmuted k = after.unmuted k := fun k =>
    State.unmuted_congr (hpod k).2.1 (hpod k).1 (by simp)
  have hdiffer : holdsDiffer before (after.modPod p g) = holdsDiffer before after := by
    simp only [holdsDiffer, State.privacy_modPod, State.leg_modPod, (hpod _).1]
  have htalkers (l : List Talker) : { after.modPod p g with talkers := l } = ({ after with talkers := l } : State).modPod p g := by
    simp only [State.modPod, State.mapPods, State.pod]
  simp only [takeHoldChange, hmuted, hunmuted, State.talkers_modPod, (hpod _).2.2, hdiffer, htalkers]
  rw [State.modPod_mapPods_comm _ _ fun k pod => flag pod _, State.modPod_raiseIf, State.modPod_raiseIf]

/-! ### A miss (R136 to R139, R166) -/

/-- A pod record after a miss, with POD_ERRORS reported as a counter reaches 255 and POD_LOST as the pod enters LOST (R136, Table 8-2, R166). -/
def Pod.missed (pod : Pod) (kind : Miss) (missLimit : Nat) : Pod :=
  let lost := entersLost pod.link pod.misses missLimit
  { pod with
    timeouts := if kind = .timeout then bump pod.timeouts else pod.timeouts
    checkFailures := if kind = .check then bump pod.checkFailures else pod.checkFailures
    framingErrors := if kind = .framing then bump pod.framingErrors else pod.framingErrors
    link := if lost then .lost else if pod.link = .online then .doubtful else pod.link
    misses := if pod.link = .seeking ∨ pod.link = .doubtful then pod.misses + 1 else if pod.link = .online then 1 else pod.misses
    baselines := if lost then none else pod.baselines
    shortDue := if lost then 0 else pod.shortDue
    longDue := if lost then 0 else pod.longDue
    holds := if lost then { pod.holds with link := true } else pod.holds
    podErrors := if pod.counter kind = 254 then pod.podErrors.report true else pod.podErrors
    podLost := if lost then pod.podLost.report true else pod.podLost }

/-- A miss brings none but a SEEKING or DOUBTFUL pod to LOST (R137, R138). -/
theorem entersLost_iff (link : PodState) (misses missLimit : Nat) : entersLost link misses missLimit = true ↔
    (link = .seeking ∨ link = .doubtful) ∧ missLimit ≤ misses + 1 := by
  simp [entersLost]

theorem Pod.afterMiss_eq (pod : Pod) (missLimit : Nat) :
    let lost := entersLost pod.link pod.misses missLimit
    pod.afterMiss missLimit = { pod with
      link := if lost then .lost else if pod.link = .online then .doubtful else pod.link
      misses := if pod.link = .seeking ∨ pod.link = .doubtful then pod.misses + 1 else if pod.link = .online then 1 else pod.misses
      baselines := if lost then none else pod.baselines
      shortDue := if lost then 0 else pod.shortDue
      longDue := if lost then 0 else pod.longDue
      holds := if lost then { pod.holds with link := true } else pod.holds } := by
  dsimp only
  unfold Pod.afterMiss
  split
  · rename_i hlost
    rw [if_pos ((entersLost_iff ..).1 hlost).1]
  · rename_i hstays
    cases hlink : pod.link with
    | seeking | doubtful | online => simp_all
    | unlisted | lost => simp_all; rw [← hlink]

/-- The record after a miss is the model's, with the two reports made in it. -/
theorem Pod.missed_eq (pod : Pod) (kind : Miss) (missLimit : Nat) : pod.missed kind missLimit =
    { (pod.countMiss kind).afterMiss missLimit with
      podErrors := if pod.counter kind = 254 then pod.podErrors.report true else pod.podErrors
      podLost := if entersLost pod.link pod.misses missLimit then pod.podLost.report true else pod.podLost } := by
  rw [Pod.afterMiss_eq]
  cases kind <;> rfl

/-- A report of POD_ERRORS that is made or not, as one change of a record with its notice (R165). -/
theorem State.reportErrors_if (s : State) (p : PodId) (b : Bool) : (if b then s.reportErrors p true else s) =
    (s.modPod p fun pod => { pod with podErrors := if b then pod.podErrors.report true else pod.podErrors }).raiseIf
      (b && (s.pod p).podErrors.reportNotice true) .faults := by
  cases b
  · simp only [Bool.false_and, State.raiseIf, Bool.false_eq_true, if_false]
    exact (State.modPod_eq_self rfl).symm
  · simp only [if_true, Bool.true_and]
    rfl

/-- A report of POD_LOST that is made or not (R165). -/
theorem State.reportLost_if (s : State) (p : PodId) (b present : Bool) : (if b then s.reportLost p present else s) =
    (s.modPod p fun pod => { pod with podLost := if b then pod.podLost.report present else pod.podLost }).raiseIf
      (b && (s.pod p).podLost.reportNotice present) .faults := by
  cases b
  · simp only [Bool.false_and, State.raiseIf, Bool.false_eq_true, if_false]
    exact (State.modPod_eq_self rfl).symm
  · simp only [if_true, Bool.true_and]
    rfl

theorem Pod.podErrors_afterMiss (pod : Pod) (kind : Miss) (missLimit : Nat) :
    ((pod.countMiss kind).afterMiss missLimit).podErrors = pod.podErrors := by
  rw [Pod.afterMiss_eq]; cases kind <;> rfl

theorem Pod.podLost_afterMiss (pod : Pod) (kind : Miss) (missLimit : Nat) :
    ((pod.countMiss kind).afterMiss missLimit).podLost = pod.podLost := by
  rw [Pod.afterMiss_eq]; cases kind <;> rfl

/-- What a miss sets in motion is one change of the pod's record, passed through R21, with its notices (R136 to R139, R166). -/
theorem judgeMiss_eq (p : PodId) (kind : Miss) (s : State) : judgeMiss p kind s =
    (((takeHoldChange s (s.modPod p fun pod => pod.missed kind s.tuning.missLimit)).raiseIf
      (decide ((s.pod p).counter kind = 254) && (s.pod p).podErrors.reportNotice true) .faults).raiseIf
      (entersLost (s.pod p).link (s.pod p).misses s.tuning.missLimit && (s.pod p).podLost.reportNotice true) .faults).raiseIf
      (entersLost (s.pod p).link (s.pod p).misses s.tuning.missLimit || (s.pod p).link == .online) .pods := by
  let errors := decide ((s.pod p).counter kind = 254)
  let lost := entersLost (s.pod p).link (s.pod p).misses s.tuning.missLimit
  let base := fun pod : Pod => (pod.countMiss kind).afterMiss s.tuning.missLimit
  let withErrors := fun pod : Pod => { pod with podErrors := if errors then pod.podErrors.report true else pod.podErrors }
  let withLost := fun pod : Pod => { pod with podLost := if lost then pod.podLost.report true else pod.podLost }
  have hrecord : ((s.modPod p base).modPod p withErrors).modPod p withLost =
      s.modPod p fun pod => pod.missed kind s.tuning.missLimit := by
    rw [State.modPod_modPod, State.modPod_modPod]
    refine State.modPod_congr ?_
    rw [Pod.missed_eq]
    simp only [withLost, withErrors, base, errors, lost, decide_eq_true_eq]
    rw [Pod.podErrors_afterMiss, Pod.podLost_afterMiss]
  have hmodel : judgeMiss p kind s =
      (if lost then (if errors then (takeHoldChange s (s.modPod p base)).reportErrors p true else
        takeHoldChange s (s.modPod p base)).reportLost p true else
        (if errors then (takeHoldChange s (s.modPod p base)).reportErrors p true else
          takeHoldChange s (s.modPod p base))).raiseIf (lost || (s.pod p).link == .online) .pods := by
    simp only [judgeMiss, errors, decide_eq_true_eq]
    rfl
  have herr : ((takeHoldChange s (s.modPod p base)).pod p).podErrors = (s.pod p).podErrors := by
    rw [State.pod_takeHoldChange, State.pod_modPod, if_pos rfl]
    exact Pod.podErrors_afterMiss ..
  have hlost : ((takeHoldChange s (s.modPod p base)).pod p).podLost = (s.pod p).podLost := by
    rw [State.pod_takeHoldChange, State.pod_modPod, if_pos rfl]
    exact Pod.podLost_afterMiss ..
  rw [hmodel, State.reportErrors_if, State.reportLost_if, herr, State.pod_raiseIf, State.pod_modPod, if_pos rfl]
  simp only [hlost]
  rw [← State.modPod_raiseIf, ← hrecord, takeHoldChange_modPod_after s _ p withLost, takeHoldChange_modPod_after s _ p withErrors]
  all_goals intros; rfl

/-! ### A good reply (R140, R141, R143, R166) -/

/-- The presses that a count has risen by, modulo 16, since the one before it; none without one (R141). -/
def pressesSince (old : Option Nat) (n : Nat) : Nat :=
  match old with
  | some b => (n + 16 - b) % 16
  | none => 0

/-- A pod record after a good reply, with POD_LOST reported absent as the pod leaves LOST and POD_LOCAL as its fault flag says (Table 8-2, R140, R141, R166). -/
def Pod.replied (pod : Pod) (short long : Nat) (fault : Bool) : Pod :=
  let met := pod.link = .online ∨ pod.link = .doubtful
  { pod with
    link := .online
    misses := 0
    baselines := some ⟨short, long⟩
    localFault := fault
    shortDue := if met then pressesSince (pod.baselines.map Baselines.short) short else 0
    longDue := if met then pressesSince (pod.baselines.map Baselines.long) long else 0
    holds := if met then pod.holds else { pod.holds with link := false }
    podLost := if pod.link = .lost then pod.podLost.report false else pod.podLost
    podLocal := pod.podLocal.report fault }

theorem Pod.afterReply_eq (pod : Pod) (short long : Nat) (fault : Bool) :
    let met := pod.link = .online ∨ pod.link = .doubtful
    pod.afterReply short long fault = { pod with
      link := .online, misses := 0, baselines := some ⟨short, long⟩, localFault := fault
      shortDue := if met then pressesSince (pod.baselines.map Baselines.short) short else 0
      longDue := if met then pressesSince (pod.baselines.map Baselines.long) long else 0
      holds := if met then pod.holds else { pod.holds with link := false } } := by
  unfold Pod.afterReply
  cases hlink : pod.link with
  | unlisted | seeking | lost => simp
  | online | doubtful => cases hbase : pod.baselines <;> simp [pressesSince]

/-- The record after a reply is the model's, with the two reports made in it. -/
theorem Pod.replied_eq (pod : Pod) (short long : Nat) (fault : Bool) : pod.replied short long fault =
    { pod.afterReply short long fault with
      podLost := if pod.link = .lost then pod.podLost.report false else pod.podLost
      podLocal := pod.podLocal.report fault } := by
  rw [Pod.afterReply_eq]
  rfl

/-- What a good reply sets in motion is one change of the pod's record, passed through R21, with its notices (R140, R143, R166). -/
theorem judgeReply_eq (p : PodId) (short long : Nat) (fault : Bool) (s : State) : judgeReply p short long fault s =
    (((takeHoldChange s (s.modPod p fun pod => pod.replied short long fault)).raiseIf
      ((s.pod p).link == .lost && (s.pod p).podLost.reportNotice false) .faults).raiseIf
      ((s.pod p).podLocal.reportNotice fault) .faults).raiseIf ((s.pod p).link != .online) .pods := by
  let lost := (s.pod p).link == .lost
  let base := fun pod : Pod => pod.afterReply short long fault
  let withLost := fun pod : Pod => { pod with podLost := if lost then pod.podLost.report false else pod.podLost }
  let withLocal := fun pod : Pod => { pod with podLocal := pod.podLocal.report fault }
  have hrecord : ((s.modPod p base).modPod p withLost).modPod p withLocal = s.modPod p fun pod => pod.replied short long fault := by
    rw [State.modPod_modPod, State.modPod_modPod]
    refine State.modPod_congr ?_
    rw [Pod.replied_eq]
    simp only [withLocal, withLost, base, lost, beq_iff_eq]
    rw [Pod.afterReply_eq]
  have hmodel : judgeReply p short long fault s =
      ((if lost then (takeHoldChange s (s.modPod p base)).reportLost p false else
        takeHoldChange s (s.modPod p base)).reportLocal p fault).raiseIf ((s.pod p).link != .online) .pods := by
    simp only [judgeReply, lost, beq_iff_eq]
    rfl
  have hlost : ((takeHoldChange s (s.modPod p base)).pod p).podLost = (s.pod p).podLost ∧
      ((takeHoldChange s (s.modPod p base)).pod p).podLocal = (s.pod p).podLocal := by
    rw [State.pod_takeHoldChange, State.pod_modPod, if_pos rfl]
    simp only [base, Pod.afterReply_eq, and_self]
  rw [hmodel, State.reportLost_if, hlost.1, State.reportLocal, State.pod_raiseIf, State.pod_modPod, if_pos rfl]
  simp only [hlost.2]
  rw [← State.modPod_raiseIf, ← hrecord, takeHoldChange_modPod_after s _ p withLocal, takeHoldChange_modPod_after s _ p withLost]
  all_goals intros; rfl

/-! ### One pod record under a judgement -/

theorem bump_le (n : Nat) : bump n ≤ 255 := Nat.min_le_left _ _

/-- A counter that has not reached 255 before is there after one more exactly from 254 (R136). -/
theorem bump_eq_iff {n : Nat} (h : n ≤ 255) : bump n = 255 ↔ n = 254 ∨ n = 255 := by
  unfold bump; omega

/-- A pod that polling has met or seeks is listed (R7). -/
theorem Pod.cleared.not_listed {pod : Pod} (h : pod.listed = false → pod.cleared) (hlink : pod.link ≠ .unlisted) :
    pod.listed = true := by
  by_contra hl
  exact hlink (h (by simpa using hl)).1

/-- A pod that moves between states with its reach and LINK kept (R37, R129). -/
theorem Pod.linked.relink {pod next : Pod} (h : pod.linked) (met : pod.link ≠ .unlisted) (listed : next.listed = pod.listed)
    (met' : next.link ≠ .unlisted) (reach : next.reachable ↔ pod.reachable)
    (held : (next.link = .seeking ∨ next.link = .lost) ↔ (pod.link = .seeking ∨ pod.link = .lost))
    (holds : next.holds = pod.holds) (base : next.baselines = pod.baselines) (short : next.shortDue = pod.shortDue)
    (long : next.longDue = pod.longDue) (misses : next.misses ≤ 8)
    (few : next.link = .seeking ∨ next.link = .doubtful → next.misses ≤ 7) : next.linked := by
  obtain ⟨hcleared, hlisted, hbase, hdue, hrange, hshort, hlong, -⟩ := h
  have hl := Pod.cleared.not_listed hcleared met
  refine ⟨fun h => absurd (h.symm.trans (listed.trans hl)) (by decide), fun _ => ⟨met', ?_⟩, ?_, ?_, ?_, ?_, ?_, misses, few⟩
  · rw [holds, held]; exact (hlisted hl).2
  · rw [base, reach]; exact hbase
  · rw [short, long, reach]; exact hdue
  · rw [base]; exact hrange
  · rw [short]; exact hshort
  · rw [long]; exact hlong

/-- A miss that brings its pod to LOST keeps law 5 (R138). -/
theorem Pod.linked.missed_lost {pod : Pod} (h : pod.linked) (kind : Miss) {missLimit : Nat}
    (hlost : entersLost pod.link pod.misses missLimit = true) : (pod.missed kind missLimit).linked := by
  obtain ⟨hcleared, -, -, -, -, -, -, -, hfew⟩ := h
  have hlink := ((entersLost_iff ..).1 hlost).1
  have hlisted : pod.listed = true := Pod.cleared.not_listed hcleared fun hu => by simp [hu] at hlink
  have hmisses : pod.misses + 1 ≤ 8 := Nat.succ_le_succ (hfew hlink)
  refine ⟨fun hl => absurd (hl.symm.trans hlisted) (by decide), fun _ => ⟨?_, ?_⟩, ?_, ?_, ?_, ?_, ?_, ?_, ?_⟩
  all_goals simp [Pod.missed, hlost, hlink, hmisses, Pod.reachable]

/-- A miss that leaves its pod short of LOST keeps law 5 (R137, R138). -/
theorem Pod.linked.missed_kept {pod : Pod} (h : pod.linked) (kind : Miss) {missLimit : Nat} (hlimit : missLimit ≤ 8)
    (hlost : entersLost pod.link pod.misses missLimit = false) : (pod.missed kind missLimit).linked := by
  have hstays : ¬ ((pod.link = .seeking ∨ pod.link = .doubtful) ∧ missLimit ≤ pod.misses + 1) := by
    rw [← entersLost_iff, hlost]; exact Bool.false_ne_true
  have hlink' : (pod.missed kind missLimit).link = if pod.link = .online then .doubtful else pod.link := by
    simp only [Pod.missed, hlost, Bool.false_eq_true, if_false]
  have hmisses' : (pod.missed kind missLimit).misses =
      if pod.link = .seeking ∨ pod.link = .doubtful then pod.misses + 1 else if pod.link = .online then 1 else pod.misses := rfl
  have hbase : (pod.missed kind missLimit).baselines = pod.baselines := by simp [Pod.missed, hlost]
  have hshort : (pod.missed kind missLimit).shortDue = pod.shortDue := by simp [Pod.missed, hlost]
  have hlong : (pod.missed kind missLimit).longDue = pod.longDue := by simp [Pod.missed, hlost]
  have hholds : (pod.missed kind missLimit).holds = pod.holds := by simp [Pod.missed, hlost]
  cases hlink : pod.link with
  | unlisted | lost =>
    unfold Pod.linked Pod.reachable Pod.cleared at h ⊢
    rw [hlink', hmisses', hbase, hshort, hlong, hholds]
    simpa [hlink, Pod.missed] using h
  | seeking | doubtful =>
    have hone : pod.misses + 1 ≤ 7 := by
      simp only [hlink, true_or, or_true, true_and] at hstays
      omega
    refine h.relink (by simp [hlink]) rfl ?_ ?_ ?_ hholds hbase hshort hlong ?_ fun _ => ?_
    all_goals simp [hlink', hmisses', hlink, Pod.reachable]
    all_goals omega
  | online =>
    refine h.relink (by simp [hlink]) rfl ?_ ?_ ?_ hholds hbase hshort hlong ?_ fun _ => ?_
    all_goals simp [hlink', hmisses', hlink, Pod.reachable]

/-- POD_ERRORS stands with the counters: a counter reaches 255 as its report is made (R136, R166). -/
theorem Pod.errors_missed {pod : Pod} (kind : Miss) (missLimit : Nat)
    (h : pod.podErrors.condition = true ↔ (pod.timeouts = 255 ∨ pod.checkFailures = 255 ∨ pod.framingErrors = 255))
    (ht : pod.timeouts ≤ 255) (hc : pod.checkFailures ≤ 255) (hf : pod.framingErrors ≤ 255) :
    (pod.missed kind missLimit).podErrors.condition = true ↔ ((pod.missed kind missLimit).timeouts = 255 ∨
      (pod.missed kind missLimit).checkFailures = 255 ∨ (pod.missed kind missLimit).framingErrors = 255) := by
  have hkind : ∀ n ≤ 255, ∀ r : Prop, (pod.podErrors.condition = true ↔ (n = 255 ∨ r)) →
      ((if n = 254 then pod.podErrors.report true else pod.podErrors).condition = true ↔ (bump n = 255 ∨ r)) := by
    intro n hn r hr
    rw [bump_eq_iff hn]
    by_cases h254 : n = 254
    · simp [h254]
    · rw [if_neg h254, hr]; simp [h254]
  cases kind with
  | timeout => exact hkind _ ht _ h
  | check => exact (hkind _ hc _ (h.trans or_left_comm)).trans or_left_comm
  | framing =>
    have hlast : ∀ a b c : Prop, (a ∨ b ∨ c) ↔ (c ∨ a ∨ b) := fun a b c => by tauto
    exact (hkind _ hf _ (h.trans (hlast _ _ _))).trans (hlast _ _ _).symm

/-- A miss keeps the laws of its pod under a MISS_LIMIT in range (R136 to R138, R166). -/
theorem Pod.Kept.missed (p : PodId) (pod : Pod) (kind : Miss) (missLimit : Nat) :
    pod.Kept (missLimit ≤ 8) p (pod.missed kind missLimit) where
  tabled := id
  gained := id
  started := id
  env := le_rfl
  linked := fun hlimit h => by
    cases hlost : entersLost pod.link pod.misses missLimit with
    | true => exact h.missed_lost kind hlost
    | false => exact h.missed_kept kind hlimit hlost
  faulted := fun _ _ ⟨⟨hlost, hclip, hlocal, herrors⟩, hlostc, hclipc, hlocalc, herrorsc, ht, hc, hf⟩ => by
    refine ⟨⟨?_, hclip, hlocal, ?_⟩, ?_, hclipc, hlocalc, Pod.errors_missed kind missLimit herrorsc ht hc hf, ?_, ?_, ?_⟩
    · simp only [Pod.missed]
      split
      · exact FaultRecord.sound_report _ _
      · exact hlost
    · simp only [Pod.missed]
      split
      · exact FaultRecord.sound_report _ _
      · exact herrors
    · simp only [Pod.missed]
      split
      · simp
      · rw [hlostc]
        split
        · rename_i honline; simp [honline]
        · rfl
    all_goals
      simp only [Pod.missed]
      split
      · exact bump_le _
      · assumption

theorem pressesSince_le (old : Option Nat) (n : Nat) : pressesSince old n ≤ 15 := by
  cases old with
  | none => exact Nat.zero_le _
  | some b => exact Nat.le_of_lt_succ (Nat.mod_lt _ (by decide))

/-- A good reply keeps the laws of its pod, which is listed (R140, R141, R166). -/
theorem Pod.Kept.replied (p : PodId) (pod : Pod) {short long : Nat} (hshort : short ≤ 15) (hlong : long ≤ 15) (fault : Bool) :
    pod.Kept (pod.listed = true) p (pod.replied short long fault) where
  tabled := id
  gained := id
  started := id
  env := le_rfl
  linked := fun hl ⟨_, hlisted, _⟩ => by
    refine ⟨fun h => absurd (h.symm.trans hl) (by decide), fun _ => ⟨by simp [Pod.replied], ?_⟩, by simp [Pod.replied, Pod.reachable],
      fun _ => .inl rfl, fun b hb => ?_, ?_, ?_, by simp [Pod.replied], by simp [Pod.replied]⟩
    · have hheld := (hlisted hl).2
      simp only [Pod.replied]
      split
      · rename_i hmet
        rw [hheld]
        rcases hmet with hmet | hmet <;> simp [hmet]
      · simp
    · obtain rfl : _ = b := Option.some.inj hb
      exact ⟨hshort, hlong⟩
    all_goals
      simp only [Pod.replied]
      split
      · exact pressesSince_le _ _
      · exact Nat.zero_le _
  faulted := fun hl _ ⟨⟨hlost, hclip, hlocal, herrors⟩, hlostc, hclipc, hlocalc, hrest⟩ => by
    refine ⟨⟨?_, hclip, FaultRecord.sound_report _ _, herrors⟩, ?_, hclipc, FaultRecord.condition_report _ _, hrest⟩
    · simp only [Pod.replied]
      split
      · exact FaultRecord.sound_report _ _
      · exact hlost
    · simp only [Pod.replied]
      split
      · simp
      · rename_i hstays
        simp [hlostc, hstays]

end Sys2Proof.Machine
end

section
/-! Receptions, presses and slots of the pod link keep the laws. -/

namespace Sys2Proof.Machine

/-! ### The end of a reception (R134, R145) -/

/-- The state with its slot judged (R134). -/
def State.slotJudged (s : State) (x : Slot) : State := { s with slot := some { x with judged := true } }

section
variable (s : State) (x : Slot) (p : PodId) (m : LegId) (q : PortId)

@[simp] theorem State.pod_slotJudged : (s.slotJudged x).pod p = s.pod p := rfl
@[simp] theorem State.leg_slotJudged : (s.slotJudged x).leg m = s.leg m := rfl
@[simp] theorem State.port_slotJudged : (s.slotJudged x).port q = s.port q := rfl
@[simp] theorem State.privacy_slotJudged : (s.slotJudged x).privacy = s.privacy := rfl
@[simp] theorem State.tuning_slotJudged : (s.slotJudged x).tuning = s.tuning := rfl
@[simp] theorem State.talkers_slotJudged : (s.slotJudged x).talkers = s.talkers := rfl
@[simp] theorem State.slot_slotJudged : (s.slotJudged x).slot = some { x with judged := true } := rfl

theorem takeHoldChange_slotJudged (after : State) : takeHoldChange (s.slotJudged x) after = takeHoldChange s after :=
  takeHoldChange_congr (fun _ => rfl) (fun _ => rfl) rfl (fun _ => rfl) after

end

/-- The end of reception in a slot that awaits a reply (R134). -/
theorem endReception_of_awaiting {judge : PodId → State → State} {s : State} {x : Slot} (h : Awaiting s x) :
    endReception judge s = (judge x.pod (s.slotJudged x)).settle := by
  rw [endReception, h.slot]
  dsimp only
  rw [if_neg (by simp [h.judged]), if_neg (by simp [h.discard])]
  rfl

/-- A judgement that changes its pod's record alone and passes through R21 keeps the laws when the record does. -/
theorem KeepsLaws.judged {s : State} {x : Slot} (h : Awaiting s x) {known : Prop} {f : Pod → Pod}
    (hknown : s.tablesSound → (s.pod x.pod).listed = true → known) (kept : (s.pod x.pod).Kept known x.pod (f (s.pod x.pod)))
    (listed : (f (s.pod x.pod)).listed = (s.pod x.pod).listed) (cls : (f (s.pod x.pod)).cls = (s.pod x.pod).cls) :
    KeepsLaws false s (Machine.takeHoldChange (s.slotJudged x) ((s.slotJudged x).modPod x.pod f)) := by
  rw [takeHoldChange_slotJudged]
  refine KeepsLaws.takeHoldChange (known := known) ?_ (fun ht hl => hknown ht (hl.2 x h.slot h.judged h.discard))
    (fun p => ?_) (fun m => ?_) (fun q => ?_) (by simp) (fun p => ?_) (fun p => ?_) fun _ y hy hj _ => ?_
  · unfold RoomOnly; simp only [State.modPod, State.mapPods, State.slotJudged]
  · rw [State.pod_modPod]
    split
    · rename_i hp; subst hp; exact kept
    · exact Pod.Kept.refl p _
  · rw [State.leg_modPod]; exact Leg.Kept.refl _
  · rw [State.port_modPod]; exact Port.Kept.refl _
  · rw [State.pod_modPod]
    split
    · rename_i hp; subst hp; exact listed
    · rfl
  · rw [State.pod_modPod]
    split
    · rename_i hp; subst hp; exact cls
    · rfl
  · rw [State.slot_modPod] at hy
    obtain rfl : _ = y := Option.some.inj hy
    cases hj

theorem KeepsLaws.judgeMiss {s : State} {x : Slot} (h : Awaiting s x) (kind : Miss) :
    KeepsLaws false s (Machine.judgeMiss x.pod kind (s.slotJudged x)) := by
  rw [judgeMiss_eq]
  exact (KeepsLaws.judged h (fun ht _ => (ht.range .missLimit).2) (Pod.Kept.missed _ _ kind _) rfl rfl).trans
    ((KeepsLaws.raiseIf _ _ _ _).trans ((KeepsLaws.raiseIf _ _ _ _).trans (KeepsLaws.raiseIf _ _ _ _)))

theorem KeepsLaws.judgeReply {s : State} {x : Slot} (h : Awaiting s x) {short long : Nat} (hshort : short ≤ 15) (hlong : long ≤ 15)
    (fault : Bool) : KeepsLaws false s (Machine.judgeReply x.pod short long fault (s.slotJudged x)) := by
  rw [judgeReply_eq]
  exact (KeepsLaws.judged h (fun _ hl => hl) (Pod.Kept.replied _ _ hshort hlong fault) rfl rfl).trans
    ((KeepsLaws.raiseIf _ _ _ _).trans ((KeepsLaws.raiseIf _ _ _ _).trans (KeepsLaws.raiseIf _ _ _ _)))

theorem KeepsLaws.judgeChars {s : State} {x : Slot} (h : Awaiting s x) (echo counts flags checkHigh checkLow : LineChar) :
    KeepsLaws false s (Machine.judgeChars x.pod echo counts flags checkHigh checkLow (s.slotJudged x)) := by
  unfold Machine.judgeChars
  dsimp only
  split
  · exact KeepsLaws.judgeMiss h _
  split
  · exact KeepsLaws.judgeMiss h _
  split
  · exact KeepsLaws.judgeMiss h _
  · refine KeepsLaws.judgeReply h (Nat.le_of_lt_succ (Nat.mod_lt _ (by decide))) ?_ _
    have := counts.data.isLt
    omega

theorem KeepsLaws.endReception {judge : PodId → State → State} (s : State)
    (hjudge : ∀ x, Awaiting s x → KeepsLaws false s (judge x.pod (s.slotJudged x))) :
    KeepsLaws false s (Machine.endReception judge s) := by
  cases hslot : s.slot with
  | none => simpa [Machine.endReception, hslot] using KeepsLaws.refl false s
  | some x =>
    by_cases hj : x.judged = true
    · simpa [Machine.endReception, hslot, hj] using KeepsLaws.refl false s
    by_cases hd : x.discard = true
    · have hdiscarded : Machine.endReception judge s = (s.slotJudged x).settle := by
        simp [Machine.endReception, hslot, hj, hd, State.slotJudged]
      rw [hdiscarded]
      exact (KeepsLaws.withSlot false s _ s.lastPolled fun _ y hy hj _ => by
        obtain rfl : _ = y := Option.some.inj hy
        cases hj).trans (KeepsLaws.settle _ _)
    · have h : Awaiting s x := ⟨hslot, by simpa using hj, by simpa using hd⟩
      rw [endReception_of_awaiting h]
      exact (hjudge x h).trans (KeepsLaws.settle _ _)

/-! ### Presses delivered before a slot begins (R142) -/

theorem pod_deliverShort (p k : PodId) (s : State) : ((deliverShort p s).pod k).listed = (s.pod k).listed ∧
    ((deliverShort p s).pod k).shortDue = (s.pod k).shortDue - (if k = p then 1 else 0) := by
  rw [deliverShort_eq, (HoldChange.afterShort s p).pod_eq, State.pod_afterShort]
  exact ⟨rfl, rfl⟩

theorem pod_deliverLong (p k : PodId) (s : State) : ((deliverLong p s).pod k).listed = (s.pod k).listed := by
  rw [deliverLong_eq, (HoldChange.afterLong s p).pod_eq, State.pod_afterLong]
  rfl

theorem KeepsLaws.repeat_deliverShort (p : PodId) (n : Nat) (s : State) (h : n ≤ (s.pod p).shortDue) :
    KeepsLaws false s (repeatState n (Machine.deliverShort p) s) ∧
      ((repeatState n (Machine.deliverShort p) s).pod p).listed = (s.pod p).listed := by
  induction n generalizing s with
  | zero => exact ⟨KeepsLaws.refl _ s, rfl⟩
  | succ n ih =>
    obtain ⟨hlisted, hdue⟩ := pod_deliverShort p p s
    obtain ⟨hlaws, hrest⟩ := ih (Machine.deliverShort p s) (by rw [hdue, if_pos rfl]; omega)
    exact ⟨(KeepsLaws.deliverShort s p (by omega)).trans hlaws, hrest.trans hlisted⟩

theorem KeepsLaws.repeat_deliverLong (p : PodId) (n : Nat) (s : State) :
    KeepsLaws false s (repeatState n (Machine.deliverLong p) s) ∧
      ((repeatState n (Machine.deliverLong p) s).pod p).listed = (s.pod p).listed := by
  induction n generalizing s with
  | zero => exact ⟨KeepsLaws.refl _ s, rfl⟩
  | succ n ih =>
    obtain ⟨hlaws, hrest⟩ := ih (Machine.deliverLong p s)
    exact ⟨(KeepsLaws.deliverLong s p).trans hlaws, hrest.trans (pod_deliverLong p p s)⟩

theorem KeepsLaws.deliverAll (p : PodId) (s : State) :
    KeepsLaws false s (Machine.deliverAll p s) ∧ ((Machine.deliverAll p s).pod p).listed = (s.pod p).listed := by
  obtain ⟨hshort, hlisted⟩ := KeepsLaws.repeat_deliverShort p _ s le_rfl
  obtain ⟨hlong, hlisted'⟩ := KeepsLaws.repeat_deliverLong p
    ((repeatState (s.pod p).shortDue (Machine.deliverShort p) s).pod p).longDue (repeatState (s.pod p).shortDue (Machine.deliverShort p) s)
  exact ⟨hshort.trans hlong, hlisted'.trans hlisted⟩

/-! ### The start of a slot (R131) -/

theorem State.listed_of_nextPolled {s : State} {p : PodId} (h : s.nextPolled = some p) : (s.pod p).listed = true := by
  unfold State.nextPolled at h
  split at h
  · rename_i k hk
    obtain rfl : k = p := Option.some.inj h
    have := List.find?_some hk
    simp only [Bool.and_eq_true] at this
    exact this.1
  · exact List.find?_some (p := fun k => (s.pod k).listed) h

theorem KeepsLaws.startSlot (s : State) : KeepsLaws false s (Machine.startSlot s) := by
  have hreception := KeepsLaws.endReception (judge := fun p => Machine.judgeMiss p .timeout) s fun x h =>
    KeepsLaws.judgeMiss h .timeout
  unfold Machine.startSlot
  dsimp only
  split
  · exact hreception.trans (KeepsLaws.withSlot _ _ _ _ fun _ y hy => by cases hy)
  · rename_i p hp
    obtain ⟨hdelivered, hlisted⟩ := KeepsLaws.deliverAll p (Machine.endReception (fun p => Machine.judgeMiss p .timeout) s)
    exact hreception.trans (hdelivered.trans (KeepsLaws.beginSlot _ _ (hlisted.trans (State.listed_of_nextPolled hp))))

end Sys2Proof.Machine
end

section
/-! The events of the mix engine and of the lanes keep the laws. -/

namespace Sys2Proof.Machine

/-! ### Gains (R45 to R49, R89, R93 to R96) -/

/-- A product with a gain of at most unity is at most the other factor (R89). -/
theorem halfUp_le {a b : Nat} (h : b ≤ 65536) : halfUp a b ≤ a := by
  have : a * b ≤ a * 65536 := Nat.mul_le_mul_left a h
  unfold halfUp
  omega

theorem Ramp.atMost.toward {r : Ramp} {bound target : Nat} (h : r.atMost bound) (ht : target ≤ bound) (step : Nat) :
    (r.toward target step).atMost bound := by
  obtain ⟨-, hnow⟩ := h
  refine ⟨hnow, ?_⟩
  simp only [Ramp.toward]
  split
  · exact (Nat.min_le_left _ _).trans ht
  · split
    · exact Nat.max_le.2 ⟨ht, (Nat.sub_le _ _).trans hnow⟩
    · exact hnow

theorem Ramp.atMost.slideTo {r : Ramp} {bound v : Nat} (h : r.atMost bound) (hv : v ≤ bound) : (r.slideTo v).atMost bound :=
  ⟨h.2, hv⟩

/-- An envelope at 0 that is to be at 0 stays there. -/
theorem Ramp.toward_zero (step : Nat) : (Ramp.flat 0).toward 0 step = Ramp.flat 0 := rfl

theorem State.muteTarget_le (s : State) (p : PodId) : s.muteTarget p ≤ unity := by
  unfold State.muteTarget; split
  · exact le_rfl
  · exact Nat.zero_le _

theorem State.gateTarget_le {s : State} (h : s.tablesSound) (p : PodId) : s.gateTarget p ≤ unity := by
  unfold State.gateTarget; split
  · exact le_rfl
  · exact (h.range .offGain).2

theorem nomTarget_bounds (n : Nat) : 23170 ≤ nomTarget n ∧ nomTarget n ≤ unity := by
  unfold nomTarget
  split <;> decide

/-- The gains of one pod after stages 1 to 3 (R44, R93). -/
theorem State.gained_stepPod {s : State} (h : s.tablesSound) {p : PodId} {pod : Pod} (ht : pod.tabled p) (hg : pod.gained) :
    (s.stepPod p pod).gained := by
  obtain ⟨hm, hgate, hc, hca, hce, hv, hrest⟩ := hg
  obtain ⟨-, -, htrim, hvolume, -⟩ := ht
  have hslid := Ramp.atMost.slideTo hv hvolume
  unfold State.stepPod
  dsimp only
  split
  · have hm' := Ramp.atMost.toward hm (s.muteTarget_le p) (rampStep s.tuning.muteRamp)
    have hg' := Ramp.atMost.toward hgate (State.gateTarget_le h p) (gateStep s.tuning pod.gateEnv (s.gateTarget p))
    have hc' := (halfUp_le hg'.2 (a := halfUp pod.trim _)).trans (halfUp_le hm'.2 (a := pod.trim))
    exact ⟨hm', hg', hc', ⟨hce, hc'.trans htrim⟩, hc'.trans htrim, hslid, hrest⟩
  · exact ⟨hm, hgate, hc, hca, hce, hslid, hrest⟩

theorem Leg.receiveTarget_le (leg : Leg) : leg.receiveTarget ≤ unity := by
  unfold Leg.receiveTarget; split
  · exact le_rfl
  · exact Nat.zero_le _

theorem Leg.sendTarget_le (leg : Leg) : leg.sendTarget ≤ unity := by
  unfold Leg.sendTarget; split
  · exact le_rfl
  · exact Nat.zero_le _

theorem State.gained_stepLeg (s : State) {leg : Leg} (hgain : leg.gain ≤ maxTrim) (h : leg.gained) : (s.stepLeg leg).gained := by
  obtain ⟨he, hq, hf⟩ := h
  have he' := Ramp.atMost.toward he leg.receiveTarget_le (rampStep s.tuning.muteRamp)
  exact ⟨he', Ramp.atMost.toward hq leg.sendTarget_le _, Ramp.atMost.slideTo hf ((halfUp_le he'.2).trans hgain)⟩

/-- The envelopes of a CLOSED leg stay at 0 (R51). -/
theorem State.quiet_stepLeg (s : State) {leg : Leg} (hclosed : leg.state = .closed) (h : leg.quiet) : (s.stepLeg leg).quiet := by
  obtain ⟨he, hq, hf⟩ := h
  have hr : leg.receiveTarget = 0 := if_neg fun h => by rw [hclosed] at h; cases h.1
  have hs : leg.sendTarget = 0 := if_neg fun h => by rw [hclosed] at h; cases h.1
  simp only [Leg.quiet, State.stepLeg, hr, hs, he, hq, hf, Ramp.toward_zero, true_and]
  simp [Ramp.slideTo, Ramp.flat, halfUp]

/-- A mute envelope rises for a resolved-unmuted channel alone (R46, R47, R53). -/
theorem State.muteEnv_stepPod_le (s : State) (p : PodId) (pod : Pod) (h : s.unmuted p = false) :
    (s.stepPod p pod).muteEnv.now ≤ pod.muteEnv.now := by
  unfold State.stepPod
  dsimp only
  split
  · have htarget : s.muteTarget p = 0 := by simp [State.muteTarget, h]
    simp only [Ramp.toward, htarget, Nat.not_lt_zero, if_false]
    split
    · rw [Nat.zero_max]; exact Nat.sub_le _ _
    · exact le_rfl
  · exact le_rfl

theorem State.linked_stepPod (s : State) (p : PodId) {pod : Pod} (h : pod.linked) : (s.stepPod p pod).linked := by
  unfold State.stepPod
  dsimp only
  split
  · rename_i hl
    obtain ⟨-, hrest⟩ := h
    exact ⟨fun hn => absurd (hn.symm.trans hl) (by decide), hrest⟩
  · exact h

/-- Stages 1 to 3 change gains alone. -/
theorem State.stepPod_eq (s : State) (p : PodId) (pod : Pod) : s.stepPod p pod = { pod with
    muteEnv := (s.stepPod p pod).muteEnv, gateEnv := (s.stepPod p pod).gateEnv, contrib := (s.stepPod p pod).contrib
    contribEnd := (s.stepPod p pod).contribEnd, volumeGain := (s.stepPod p pod).volumeGain } := by
  unfold State.stepPod
  dsimp only
  split <;> rfl

@[simp] theorem State.talkers_stepGains (s : State) : s.stepGains.talkers = s.talkers := by simp [State.stepGains]
@[simp] theorem State.privacy_stepGains (s : State) : s.stepGains.privacy = s.privacy := by simp [State.stepGains]
@[simp] theorem State.port_stepGains (s : State) (q : PortId) : s.stepGains.port q = s.port q := by simp [State.stepGains]
@[simp] theorem State.tuning_stepGains (s : State) : s.stepGains.tuning = s.tuning := by simp [State.stepGains]

theorem State.stepGains_eq (s : State) : s.stepGains = { s with
    pods := s.stepGains.pods, legs := s.stepGains.legs
    nomGain := s.nomGain.slideTo (nomTarget s.talkers.length)
    reinforceGain := s.reinforceGain.slideTo s.tuning.reinforce } := by
  simp only [State.stepGains, State.mapPods, State.mapLegs]

/-- Stages 1 to 3 of a mix frame event keep the laws once frames have come (R87). -/
theorem KeepsLaws.stepGains (s : State) (hstarted : s.lawful → s.sync ≠ .starting) : KeepsLaws true s s.stepGains := by
  have heq := s.stepGains_eq
  have hslot : s.stepGains.slot = s.slot := by rw [heq]
  have hsync : s.stepGains.sync = s.sync := by rw [heq]
  have hclock : s.stepGains.audioClock = s.audioClock := by rw [heq]
  refine ⟨fun h => ?_, fun h m => ?_, fun ht hg => ?_, fun h => ?_, ?_, fun h => ⟨fun p => ?_, fun x hx hj hd => ?_⟩, fun h => ?_, ?_,
    fun h hs => ?_, fun h => ?_, by rw [heq], ?_, fun hf => (by cases hf), fun _ => ⟨State.privacy_stepGains s, fun hp p => ?_⟩⟩
  · obtain ⟨hp, hm, hx⟩ := h
    refine ⟨fun p => ?_, fun m => ?_, by rwa [State.tuning_stepGains]⟩
    · rw [State.pod_stepGains, State.stepPod_eq]; exact hp p
    · rw [State.leg_stepGains]; exact hm m
  · rw [State.leg_stepGains]
    exact fun hclosed => s.quiet_stepLeg hclosed (h m hclosed)
  · obtain ⟨hp, hm, hn, hnp, hnn, hr⟩ := hg
    refine ⟨fun p => ?_, fun m => ?_, ?_, ?_, ?_, ?_⟩
    · rw [State.pod_stepGains]; exact State.gained_stepPod ht (ht.1 p) (hp p)
    · rw [State.leg_stepGains]; exact s.gained_stepLeg (ht.2.1 m) (hm m)
    · exact Ramp.atMost.slideTo hn (nomTarget_bounds _).2
    · exact hnn
    · exact (nomTarget_bounds _).1
    · exact Ramp.atMost.slideTo hr (ht.range .reinforce).2
  · simpa only [State.portsSound, State.port_stepGains] using h
  · rw [heq]; exact id
  · rw [State.pod_stepGains]; exact s.linked_stepPod p (h.link.1 p)
  · rw [State.pod_stepGains, State.stepPod_eq]
    exact h.link.2 x (hslot ▸ hx) hj hd
  · refine h.talkers.of_sublist_same (by simp) (by simp) fun e he => ?_
    obtain ⟨hu, hc⟩ := h.talkers.2.2.1 e (by simpa using he)
    have hsame : s.stepGains.unmuted e.pod = s.unmuted e.pod :=
      State.unmuted_congr (by rw [State.pod_stepGains, State.stepPod_eq]) (by rw [State.pod_stepGains, State.stepPod_eq]) (by simp)
    exact ⟨hsame.trans hu, by rw [State.pod_stepGains, State.stepPod_eq]; exact hc⟩
  · rw [heq]; exact State.lawful.lanes
  · exact absurd (hsync ▸ hs) (hstarted h)
  · obtain ⟨hp, hq, hrest⟩ := h.faults
    refine ⟨fun p => ?_, fun q => ?_, by rw [hclock, hsync]; exact hrest⟩
    · rw [State.pod_stepGains, State.stepPod_eq]; exact hp p
    · rw [State.port_stepGains]; exact hq q
  · rw [heq]; exact fun _ _ _ => id
  · rw [State.pod_stepGains]
    refine s.muteEnv_stepPod_le p _ ?_
    rw [State.privacy_stepGains] at hp
    simp [State.unmuted, hp]

/-! ### Changes of the lanes alone -/

/-- After changes that keep the laws, a change of the frames on their way alone keeps them. -/
theorem KeepsLaws.thenLanes {s t u : State} (h : KeepsLaws true s t) (hu : u = { t with
      gateInput := u.gateInput, mixInput := u.mixInput, waiting := u.waiting, inProgress := u.inProgress, assembly := u.assembly
      lanesOut := u.lanesOut, underway := u.underway, freeCount := u.freeCount })
    (lanes : s.lawful → u.lanesSound) : KeepsLaws true s u := by
  refine ⟨?_, ?_, ?_, ?_, ?_, ?_, ?_, lanes, ?_, ?_, ?_, ?_, fun hf => (by cases hf), ?_⟩
  · rw [hu]; exact h.tables
  · rw [hu]; exact h.legs
  · rw [hu]; exact h.gains
  · rw [hu]; exact h.ports
  · rw [hu]; exact h.store
  · rw [hu]; exact h.link
  · rw [hu]; exact h.talkers
  · rw [hu]; exact h.start
  · rw [hu]; exact h.faults
  · rw [hu]; exact h.installer
  · rw [hu]; exact h.commits
  · rw [hu]; exact h.privacy

/-- A change of the frames on their way alone, the sync state kept. -/
theorem KeepsLaws.of_lanes {s t : State} (h : t = { s with
      gateInput := t.gateInput, mixInput := t.mixInput, waiting := t.waiting, inProgress := t.inProgress, assembly := t.assembly
      lanesOut := t.lanesOut, underway := t.underway, freeCount := t.freeCount })
    (lanes : s.lawful → t.lanesSound) : KeepsLaws true s t :=
  (KeepsLaws.refl true s).thenLanes h lanes

/-! ### The mix frame event (R86, R87, R91) -/

theorem saturate_inRange (v : Int) : inSampleRange (saturate v) := by
  unfold saturate inSampleRange minSample maxSample
  split
  · decide
  · split
    · decide
    · constructor <;> omega

theorem State.sound_outputSample (s : State) (l : LaneInput) (k : Nat) : (s.outputSample l k).sound := by
  refine ⟨fun m => ?_, ?_, fun p => ?_⟩
  · rw [State.sends_outputSample]; exact saturate_inRange _
  · rw [State.record_outputSample]; exact saturate_inRange _
  · rw [State.feeds_outputSample]
    split
    · exact saturate_inRange _
    · decide

theorem State.frameSound_outputFrame (s : State) {w : WorkFrame} (h : w.samples.length = frameLength) : frameSound (s.outputFrame w) := by
  refine ⟨by simp [State.outputFrame, h], fun o ho => ?_⟩
  obtain ⟨k, hk, rfl⟩ := List.mem_mapIdx.1 ho
  exact s.sound_outputSample _ _

/-- ME hands a frame on, or none (R104, R112). -/
def State.mixHanded (s : State) (waiting : Option (List OutputSample)) : State := { s with waiting := waiting, mixInput := none }

/-- What ME leaves waiting at AL (R104, R112). -/
def State.waitingAfter (s : State) (w : WorkFrame) : Option (List OutputSample) :=
  if w.deliver then some (s.stepGains.outputFrame w) else s.waiting

theorem runMix_of_worked {s : State} {w : WorkFrame} (h : s.mixInput = some w) :
    runMix s = (s.stepGains.mixHanded (s.waitingAfter w)).settle := by
  have hwaiting : s.stepGains.waiting = s.waiting := by rw [State.stepGains_eq]
  rw [runMix, h]
  dsimp only
  unfold mixOn State.waitingAfter
  rw [← hwaiting]
  dsimp only
  generalize s.stepGains = stepped
  split <;> rfl

/-- A frame handed on leaves the lanes sound while they run (R104). -/
theorem KeepsLaws.mixHanded (s : State) (waiting : Option (List OutputSample)) (hrunning : s.lawful → s.sync = .running)
    (hwaiting : s.lawful → ∀ f ∈ waiting, frameSound f) : KeepsLaws true s (s.mixHanded waiting) :=
  KeepsLaws.of_lanes rfl fun h => by
    obtain ⟨-, hprogress, hassembly, hgate, -, hwatchdog, hunderway, hclear, -⟩ := h.lanes
    exact ⟨hwaiting h, hprogress, hassembly, hgate, fun _ hw => (by cases hw), hwatchdog, hunderway, hclear,
      fun hs => absurd (hrunning h) hs⟩

/-- While a frame is on its way the lanes run (R110, R113). -/
theorem State.running_of_mixInput {s : State} (h : s.lanesSound) {w : WorkFrame} (hw : s.mixInput = some w) : s.sync = .running := by
  obtain ⟨-, -, -, -, -, -, -, -, hidle⟩ := h
  by_contra hne
  have := (hidle hne).2.1
  rw [hw] at this
  cases this

theorem State.running_of_gateInput {s : State} (h : s.lanesSound) {w : WorkFrame} (hw : s.gateInput = some w) : s.sync = .running := by
  obtain ⟨-, -, -, -, -, -, -, -, hidle⟩ := h
  by_contra hne
  have := (hidle hne).1
  rw [hw] at this
  cases this

theorem KeepsLaws.runMix (s : State) : KeepsLaws true s (runMix s) := by
  cases hw : s.mixInput with
  | none => simpa [Machine.runMix, hw] using KeepsLaws.refl true s
  | some w =>
    have hstepped : s.stepGains.mixInput = some w := by rw [State.stepGains_eq]; exact hw
    have hwaiting : s.stepGains.waiting = s.waiting := by rw [State.stepGains_eq]
    rw [runMix_of_worked hw]
    refine (KeepsLaws.stepGains s fun h hs => ?_).trans ((KeepsLaws.mixHanded _ _ (fun h => State.running_of_mixInput h.lanes hstepped)
      fun h f hf => ?_).trans (KeepsLaws.settle _ _))
    · rw [State.running_of_mixInput h.lanes hw] at hs; cases hs
    · obtain ⟨hsound, -, -, -, hlength, -⟩ := h.lanes
      unfold State.waitingAfter at hf
      split at hf
      · obtain rfl : _ = f := Option.some.inj hf
        exact State.frameSound_outputFrame _ (hlength w hstepped)
      · exact hsound f (by rw [hwaiting]; exact hf)

end Sys2Proof.Machine
end

section
/-! The frame work keeps the laws. -/

namespace Sys2Proof.Machine

/-! ### Tracking (R62 to R66) -/

theorem slotSample_natAbs_le (w : BitVec 32) : (slotSample w).natAbs ≤ maxLevel := by
  have hlow := BitVec.le_toInt (w.extractLsb' 8 24)
  have hhigh := BitVec.toInt_lt (x := w.extractLsb' 8 24)
  unfold slotSample maxLevel
  omega

theorem foldl_max_natAbs_le {bound : Nat} {xs : List Int} (h : ∀ x ∈ xs, x.natAbs ≤ bound) {m : Nat} (hm : m ≤ bound) :
    xs.foldl (fun m x => max m x.natAbs) m ≤ bound := by
  induction xs generalizing m with
  | nil => exact hm
  | cons x xs ih =>
    exact ih (fun y hy => h y (List.mem_cons_of_mem _ hy)) (Nat.max_le.2 ⟨hm, h x List.mem_cons_self⟩)

theorem WorkFrame.peak_le (w : WorkFrame) (p : PodId) : peak (w.podSamples p) ≤ maxLevel :=
  foldl_max_natAbs_le (fun x hx => by
    obtain ⟨l, -, rfl⟩ := List.mem_map.1 hx
    exact slotSample_natAbs_le _) (Nat.zero_le _)

/-- Levels and floors stay in range (R62 to R65). -/
theorem State.trackedIn_le (s : State) (w : WorkFrame) (p : PodId) (hlevel : (s.pod p).level ≤ maxLevel)
    (hfloor : (s.pod p).floor ≤ maxLevel) : (s.trackedIn w p).level ≤ maxLevel ∧ (s.trackedIn w p).floor ≤ maxLevel := by
  unfold State.trackedIn trackPod
  split
  · have hnext : nextLevel (s.pod p).level (peak (w.podSamples p)) ≤ maxLevel := by
      unfold nextLevel
      split
      · exact w.peak_le p
      · exact (Nat.sub_le _ _).trans hlevel
    refine ⟨hnext, ?_⟩
    simp only [nextFloor]
    split
    · exact hnext
    · exact Nat.min_le_left _ _
  · exact ⟨hlevel, hfloor⟩

/-! ### The records after the frame work (R61) -/

/-- A pod record after the frame work (R62 to R66, R80). -/
def State.workedPod (s : State) (w : WorkFrame) (p : PodId) : Pod :=
  { s.pod p with
    level := (s.trackedIn w p).level
    floor := (s.trackedIn w p).floor
    mutedTalk := if (s.pod p).listed then (s.trackedIn w p).qualifies && s.muted p else (s.pod p).mutedTalk
    podClip := if (s.pod p).listed then (s.pod p).podClip.report (s.trackedIn w p).clip else (s.pod p).podClip }

/-- The state with its frame counted and this talker list (R60, R67). -/
def State.counted (s : State) (l : List Talker) : State := { s with frameCount := s.frameCount + 1, talkers := l }

section
variable (s : State) (l : List Talker) (p : PodId) (m : LegId) (q : PortId)
@[simp] theorem State.pod_counted : (s.counted l).pod p = s.pod p := rfl
@[simp] theorem State.leg_counted : (s.counted l).leg m = s.leg m := rfl
@[simp] theorem State.port_counted : (s.counted l).port q = s.port q := rfl
@[simp] theorem State.talkers_counted : (s.counted l).talkers = l := rfl
@[simp] theorem State.privacy_counted : (s.counted l).privacy = s.privacy := rfl
@[simp] theorem State.tuning_counted : (s.counted l).tuning = s.tuning := rfl
end

/-- The frame work changes the records, the talker list and the frame count, with its two notices (R61, R84, R166). -/
theorem frameWorkOn_eq (w : WorkFrame) (s : State) : frameWorkOn w s =
    (((s.counted (frameWorkOn w s).talkers).mapPods fun p _ => s.workedPod w p).raiseIf
      (allPods.any fun p => (s.pod p).listed && (s.pod p).podClip.reportNotice (s.trackedIn w p).clip) .faults).raiseIf
      (talkersDiffer s.talkers (frameWorkOn w s).talkers || allPods.any fun p => (s.pod p).mutedTalk != (s.workedPod w p).mutedTalk)
      .talkers := by
  have htracked : ∀ p : PodId, (Vector.ofFn fun p => trackPod s.tuning (s.pod p) (w.podSamples p))[p] = s.trackedIn w p :=
    fun p => by simp [State.trackedIn]
  have hpods : ∀ l, ((s.counted l).mapPods fun p _ => s.workedPod w p) = (s.counted l).mapPods fun p pod => { pod with
      level := (s.trackedIn w p).level, floor := (s.trackedIn w p).floor
      mutedTalk := if (s.pod p).listed then (s.trackedIn w p).qualifies && s.muted p else (s.pod p).mutedTalk
      podClip := if pod.listed then pod.podClip.report (s.trackedIn w p).clip else pod.podClip } := fun l =>
    State.mapPods_congr fun p => by rw [State.pod_counted]; rfl
  rw [State.talkers_frameWorkOn, hpods]
  simp only [frameWorkOn, htracked, ← State.entriesAfter_eq, State.workedPod]
  rfl

section
variable (s : State) (w : WorkFrame) (p : PodId) (m : LegId)

@[simp] theorem State.pod_frameWorkOn : (frameWorkOn w s).pod p = s.workedPod w p := by rw [frameWorkOn_eq]; simp
@[simp] theorem State.leg_frameWorkOn : (frameWorkOn w s).leg m = s.leg m := by rw [frameWorkOn_eq]; simp
@[simp] theorem State.privacy_frameWorkOn : (frameWorkOn w s).privacy = s.privacy := by rw [frameWorkOn_eq]; simp
@[simp] theorem State.tuning_frameWorkOn : (frameWorkOn w s).tuning = s.tuning := by rw [frameWorkOn_eq]; simp
@[simp] theorem State.unmuted_frameWorkOn : (frameWorkOn w s).unmuted p = s.unmuted p :=
  State.unmuted_congr (by simp [State.workedPod]) (by simp [State.workedPod]) (by simp)

theorem Port.Kept.frameWorkOn (q : PortId) : (s.port q).Kept ((frameWorkOn w s).port q) := by
  rw [frameWorkOn_eq, State.port_raiseIf, State.port_raiseIf, State.port_mapPods, State.port_counted]
  exact (Port.Kept.notifyIf _ _ _).trans (Port.Kept.notifyIf _ _ _)

theorem State.eq_of_counted {s t : State} {l : List Talker} {f : PodId → Pod → Pod} {b b' : Bool} {c c' : Category}
    (h : t = (((s.counted l).mapPods f).raiseIf b c).raiseIf b' c') :
    t = { s with frameCount := s.frameCount + 1, talkers := l, pods := t.pods, ports := t.ports } := by
  subst h
  cases b <;> cases b' <;> simp only [State.raiseIf, State.raise, State.mapPods, State.mapPorts, State.counted, Bool.false_eq_true, if_true, if_false]

/-- The frame work changes no more than the frame count, the list and the records (R61). -/
theorem State.frameWorkOn_frame : frameWorkOn w s = { s with
    frameCount := s.frameCount + 1, talkers := (frameWorkOn w s).talkers, pods := (frameWorkOn w s).pods
    ports := (frameWorkOn w s).ports } :=
  State.eq_of_counted (frameWorkOn_eq w s)

end

/-! ### Law 3 after the frame work (R67 to R77) -/

/-- What Safety.lean asks of an entry's state. -/
def Talker.fits (e : Talker) : Prop := e.isHold = true → 1 ≤ e.state.remaining ∧ e.state.remaining ≤ 2000

/-- An entry that stays does so in a state Table 4-2 gives it, under its class (R69 to R72). -/
theorem entryStays_spec {t : Tuning} (ht : t.gateHold ≤ 2000) {b : Bool} {e x : Talker} (h : entryStays t b e = some x) (he : e.fits) :
    x.pod = e.pod ∧ x.cls = e.cls ∧ x.fits ∧ (x.isLast = true → e.isLast = true) := by
  unfold entryStays at h
  split at h
  · cases h
    exact ⟨rfl, rfl, fun h => by simp [Talker.isHold, Talker.isOpen] at h, fun h => by simp [Talker.isLast] at h⟩
  split at h
  · split at h
    · cases h
    · cases h
      exact ⟨rfl, rfl, fun _ => ⟨by simp only [TalkerState.remaining]; omega, ht⟩, fun h => by simp [Talker.isLast] at h⟩
  · rename_i r hr
    split at h
    · cases h
    · cases h
      have := (he (by simp [Talker.isHold, Talker.isOpen, Talker.isLast, hr])).2
      rw [hr] at this
      simp only [TalkerState.remaining] at this
      exact ⟨rfl, rfl, fun _ => by simp only [TalkerState.remaining]; omega, fun h => by simp [Talker.isLast] at h⟩
  · rename_i hlast
    cases h
    exact ⟨rfl, rfl, he, id⟩

section
variable {s : State} (h : s.talkersSound) (ht : s.tablesSound) (w : WorkFrame)
include h ht

/-- Every entry that the entries part leaves stands for one before it, under its class, in a state of Table 4-2 (R69 to R72). -/
theorem State.entriesAfter_spec {x : Talker} (hx : x ∈ s.entriesAfter w) :
    s.unmuted x.pod = true ∧ x.cls = (s.pod x.pod).cls ∧ x.fits ∧ (s.tuning.lastOn = 0 → x.isLast = false) := by
  obtain ⟨-, -, hentries, hhold, -, hlast⟩ := h
  unfold State.entriesAfter at hx
  dsimp only at hx
  split at hx
  · rename_i hempty
    obtain ⟨e, he, rfl⟩ : ∃ e, s.talkers.getLast? = some e ∧ x = { e with state := .last } := by
      cases hl : s.talkers.getLast? with
      | none => rw [hl] at hx; cases hx
      | some e => rw [hl] at hx; exact ⟨e, rfl, by simpa using hx⟩
    obtain ⟨hu, hc⟩ := hentries e (List.mem_of_getLast? he)
    exact ⟨hu, hc, fun h => by simp [Talker.isHold, Talker.isLast] at h, fun h0 => by rw [h0] at hempty; cases hempty.2⟩
  · obtain ⟨e, he, hstays⟩ := List.mem_filterMap.1 hx
    obtain ⟨hpod, hcls, hfits, hlast'⟩ := entryStays_spec (ht.range .gateHold).2 hstays (hhold e he)
    obtain ⟨hu, hc⟩ := hentries e he
    refine ⟨by rw [hpod]; exact hu, by rw [hpod, hcls]; exact hc, hfits, fun h0 => ?_⟩
    by_contra hx
    have := hlast' (by simpa using hx)
    rw [hlast h0 e he] at this
    cases this

/-- LAST stands at the head alone after the entries part (R70, R71). -/
theorem State.entriesAfter_tail {x : Talker} (hx : x ∈ (s.entriesAfter w).tail) : x.isLast = false := by
  obtain ⟨-, -, -, hhold, htail, -⟩ := h
  unfold State.entriesAfter at hx
  dsimp only at hx
  split at hx
  · cases hl : s.talkers.getLast? <;> rw [hl] at hx <;> cases hx
  · cases hlist : s.talkers with
    | nil => rw [hlist] at hx; cases hx
    | cons e rest =>
      rw [hlist] at hx hhold htail
      have hrest : x ∈ rest.filterMap fun e => entryStays s.tuning (s.trackedIn w e.pod).qualifies e := by
        rw [List.filterMap_cons] at hx
        split at hx
        · exact List.mem_of_mem_tail hx
        · exact hx
      obtain ⟨y, hy, hstays⟩ := List.mem_filterMap.1 hrest
      obtain ⟨-, -, -, hlast'⟩ := entryStays_spec (ht.range .gateHold).2 hstays (hhold y (List.mem_cons_of_mem _ hy))
      by_contra hx
      have := hlast' (by simpa using hx)
      rw [htail y hy] at this
      cases this

theorem State.talkersSound_frameWorkOn : (frameWorkOn w s).talkersSound := by
  obtain ⟨admitted, left, stay, -, hnodup, hmem, hadmission, hlist⟩ := s.exists_admission w h
  have hnew : ∀ x ∈ entriesOf (s.frameCount + 1) (admitted.map (s.competitor w)), x.state = .opened ∧ s.unmuted x.pod = true ∧
      x.cls = (s.pod x.pod).cls := fun x hx => by
    obtain ⟨c, hc, rfl⟩ := List.mem_map.1 hx
    obtain ⟨p, hp, rfl⟩ := List.mem_map.1 hc
    obtain ⟨-, hu, -⟩ := (hmem p).1 (List.mem_append_left _ hp)
    exact ⟨rfl, hu, rfl⟩
  have hopen : ∀ {x : Talker}, x.state = .opened → x.isHold = false ∧ x.isLast = false := fun hx => by
    simp [Talker.isHold, Talker.isOpen, Talker.isLast, hx]
  unfold State.talkersSound
  rw [hlist, State.tuning_frameWorkOn]
  simp only [State.unmuted_frameWorkOn, State.pod_frameWorkOn]
  refine ⟨?_, ?_, fun x hx => ?_, fun x hx hhold => ?_, fun x hx => ?_, fun h0 x hx => ?_⟩
  · have hall := (s.entriesAfter_candidates_nodup w h hnodup fun p => (hmem p).1).sublist
      ((hadmission.sublist.map Talker.pod).append (List.sublist_append_left admitted left))
    simpa [Function.comp_def, State.competitor] using hall
  · simpa using hadmission.fits
  · rcases List.mem_append.1 hx with hx | hx
    · obtain ⟨hu, hc, -⟩ := State.entriesAfter_spec h ht w (hadmission.sublist.subset hx)
      exact ⟨hu, hc⟩
    · obtain ⟨-, hu, hc⟩ := hnew x hx
      exact ⟨hu, hc⟩
  · rcases List.mem_append.1 hx with hx | hx
    · exact (State.entriesAfter_spec h ht w (hadmission.sublist.subset hx)).2.2.1 hhold
    · rw [(hopen (hnew x hx).1).1] at hhold; cases hhold
  · have hx' : x ∈ stay.tail ∨ x ∈ entriesOf (s.frameCount + 1) (admitted.map (s.competitor w)) := by
      cases stay with
      | nil => exact .inr (List.mem_of_mem_tail hx)
      | cons e rest => exact List.mem_append.1 hx
    rcases hx' with hx | hx
    · exact State.entriesAfter_tail h ht w (hadmission.sublist.tail.subset hx)
    · exact (hopen (hnew x hx).1).2
  · rcases List.mem_append.1 hx with hx | hx
    · exact (State.entriesAfter_spec h ht w (hadmission.sublist.subset hx)).2.2.2 h0
    · exact (hopen (hnew x hx).1).2

end

end Sys2Proof.Machine
end

section
/-! The frame events keep the laws. -/

namespace Sys2Proof.Machine

/-! ### The frame work (R61) -/

/-- An unlisted pod is not worked on (R60). -/
theorem State.workedPod_of_unlisted {s : State} {p : PodId} (h : (s.pod p).listed = false) (w : WorkFrame) :
    s.workedPod w p = s.pod p := by
  have hidle : s.trackedIn w p = ⟨(s.pod p).level, (s.pod p).floor, false, false⟩ := by simp [State.trackedIn, trackPod, h]
  have hnot : ¬ (s.pod p).listed = true := by simp [h]
  rw [State.workedPod, hidle, if_neg hnot, if_neg hnot]

/-- The frame work keeps a pod's place in the fault table (R80, R165). -/
theorem Pod.faulted.worked {s : State} {p : PodId} (h : (s.pod p).faulted) (w : WorkFrame) : (s.workedPod w p).faulted := by
  cases hl : (s.pod p).listed with
  | false => rwa [State.workedPod_of_unlisted hl]
  | true =>
    obtain ⟨⟨hlost, -, hrest⟩, hlink, -, hconds⟩ := h
    refine ⟨⟨hlost, ?_, hrest⟩, hlink, fun _ => hl, hconds⟩
    simp only [State.workedPod, hl, if_true]
    exact FaultRecord.sound_report _ _

/-- The frame work keeps a pod's place at PL (R7, R129). -/
theorem Pod.linked.worked {s : State} {p : PodId} (h : (s.pod p).linked) (w : WorkFrame) : (s.workedPod w p).linked := by
  cases hl : (s.pod p).listed with
  | false => rwa [State.workedPod_of_unlisted hl]
  | true => exact ⟨fun hu => absurd (hl.symm.trans hu) (by decide), h.2⟩

theorem Pod.gained.worked {s : State} {p : PodId} (h : (s.pod p).gained) (w : WorkFrame) : (s.workedPod w p).gained := by
  obtain ⟨hmute, hgate, hnow, hcontrib, hend, hvolume, hlevel, hfloor⟩ := h
  exact ⟨hmute, hgate, hnow, hcontrib, hend, hvolume, s.trackedIn_le w p hlevel hfloor⟩

/-- The frame work keeps the laws once frames have come (R60, R61). -/
theorem KeepsLaws.frameWorkOn (w : WorkFrame) (s : State) (hstarted : s.lawful → s.sync ≠ .starting) :
    KeepsLaws true s (frameWorkOn w s) := by
  have heq := s.frameWorkOn_frame w
  have hslot : (Machine.frameWorkOn w s).slot = s.slot := by rw [heq]
  have hsync : (Machine.frameWorkOn w s).sync = s.sync := by rw [heq]
  have hclock : (Machine.frameWorkOn w s).audioClock = s.audioClock := by rw [heq]
  have hnom : (Machine.frameWorkOn w s).nomGain = s.nomGain := by rw [heq]
  have hreinforce : (Machine.frameWorkOn w s).reinforceGain = s.reinforceGain := by rw [heq]
  refine ⟨fun ⟨hp, hm, hx⟩ => ⟨fun p => ?_, fun m => ?_, ?_⟩, fun h m => ?_, fun _ ⟨hp, hm, hg⟩ => ⟨fun p => ?_, fun m => ?_, ?_⟩,
    fun h => h.of_kept fun q => Port.Kept.frameWorkOn s w q, ?_, fun h => ⟨fun p => ?_, fun x hx hj hd => ?_⟩,
    fun h => State.talkersSound_frameWorkOn h.talkers h.tables w, ?_, fun h hs => ?_, fun h => ⟨fun p => ?_, fun q => ?_, ?_⟩,
    by rw [heq], ?_, fun hf => (by cases hf), fun _ => ⟨State.privacy_frameWorkOn s w, fun _ p => ?_⟩⟩
  · rw [State.pod_frameWorkOn]; exact hp p
  · rw [State.leg_frameWorkOn]; exact hm m
  · rwa [State.tuning_frameWorkOn]
  · rw [State.leg_frameWorkOn]; exact h m
  · rw [State.pod_frameWorkOn]; exact Pod.gained.worked (hp p) w
  · rw [State.leg_frameWorkOn]; exact hm m
  · rwa [hnom, hreinforce]
  · rw [heq]; exact id
  · rw [State.pod_frameWorkOn]; exact Pod.linked.worked (h.link.1 p) w
  · rw [State.pod_frameWorkOn]; exact h.link.2 x (hslot ▸ hx) hj hd
  · rw [heq]; exact State.lawful.lanes
  · exact absurd (hsync ▸ hs) (hstarted h)
  · rw [State.pod_frameWorkOn]; exact Pod.faulted.worked (h.faults.1 p) w
  · exact (Port.Kept.frameWorkOn s w q).lost (h.faults.2.1 q)
  · rw [hclock, hsync]; exact h.faults.2.2
  · rw [heq]; exact fun _ _ _ => id
  · rw [State.pod_frameWorkOn]; exact le_rfl

theorem KeepsLaws.runFrameWork (s : State) : KeepsLaws true s (runFrameWork s) := by
  cases hw : s.gateInput with
  | none => simpa [Machine.runFrameWork, hw] using KeepsLaws.refl true s
  | some w =>
    have heq := s.frameWorkOn_frame w
    have hsync : (Machine.frameWorkOn w s).sync = s.sync := by rw [heq]
    have hgate : (Machine.frameWorkOn w s).gateInput = some w := by rw [heq]; exact hw
    have hstarted : s.lawful → s.sync ≠ .starting := fun h hs => by
      rw [State.running_of_gateInput h.lanes hw] at hs; cases hs
    simp only [Machine.runFrameWork, hw]
    refine (KeepsLaws.frameWorkOn w s hstarted).trans (KeepsLaws.trans ?_ (KeepsLaws.settle _ _))
    generalize Machine.frameWorkOn w s = t at hgate
    refine KeepsLaws.of_lanes rfl fun h => ?_
    have hrunning := State.running_of_gateInput h.lanes hgate
    obtain ⟨hwaiting, hprogress, hassembly, hlength, -, hwatchdog, hunderway, hclear, -⟩ := h.lanes
    exact ⟨hwaiting, hprogress, hassembly, fun _ hx => (by cases hx), fun x hx => hlength x (hgate.trans hx), hwatchdog, hunderway,
      hclear, fun hs => absurd hrunning hs⟩

/-! ### Frame events still to come (log 11) -/

theorem KeepsLaws.overdueFrames (s : State) : KeepsLaws true s (overdueFrames s) :=
  (KeepsLaws.runMix s).trans ((KeepsLaws.runFrameWork _).trans (KeepsLaws.runMix _))

end Sys2Proof.Machine
end

section
/-! The events of the audio lanes keep the laws. -/

namespace Sys2Proof.Machine

/-! ### What frame events change -/

/-- What a mix frame event changes (R87, R104). -/
theorem State.runMix_frame (s : State) : runMix s = { s with
    pods := (runMix s).pods, legs := (runMix s).legs, ports := (runMix s).ports, waiting := (runMix s).waiting, mixInput := none
    nomGain := (runMix s).nomGain, reinforceGain := (runMix s).reinforceGain } := by
  cases hw : s.mixInput with
  | none =>
    have hidle : runMix s = s := by rw [runMix, hw]
    rw [hidle, ← hw]
  | some w =>
    have hsettle := (s.stepGains.mixHanded (s.waitingAfter w)).settle_eq
    rw [State.mixHanded, s.stepGains_eq] at hsettle
    rw [runMix_of_worked hw, State.mixHanded, s.stepGains_eq]
    rw [hsettle]

/-- What the frame work changes (R61). -/
theorem State.runFrameWork_frame (s : State) : runFrameWork s = { s with
    frameCount := (runFrameWork s).frameCount, talkers := (runFrameWork s).talkers, pods := (runFrameWork s).pods
    ports := (runFrameWork s).ports, gateInput := none, mixInput := (runFrameWork s).mixInput } := by
  cases hw : s.gateInput with
  | none =>
    have hidle : runFrameWork s = s := by rw [runFrameWork, hw]
    rw [hidle, ← hw]
  | some w =>
    simp only [runFrameWork, hw]
    rw [State.settle_eq, s.frameWorkOn_frame w]

/-- The frame events still to come change what frame events change, and leave no frame under way (log 11). -/
theorem State.overdueFrames_frame (s : State) : overdueFrames s = { s with
    frameCount := (overdueFrames s).frameCount, talkers := (overdueFrames s).talkers, pods := (overdueFrames s).pods
    legs := (overdueFrames s).legs, ports := (overdueFrames s).ports, waiting := (overdueFrames s).waiting
    nomGain := (overdueFrames s).nomGain, reinforceGain := (overdueFrames s).reinforceGain, gateInput := none, mixInput := none } := by
  unfold overdueFrames
  rw [State.runMix_frame, State.runFrameWork_frame, State.runMix_frame s]

section
variable (s : State)
@[simp] theorem State.gateInput_overdueFrames : (overdueFrames s).gateInput = none := by rw [State.overdueFrames_frame]
@[simp] theorem State.mixInput_overdueFrames : (overdueFrames s).mixInput = none := by rw [State.overdueFrames_frame]
@[simp] theorem State.underway_overdueFrames : (overdueFrames s).underway = s.underway := by rw [State.overdueFrames_frame]
@[simp] theorem State.inProgress_overdueFrames : (overdueFrames s).inProgress = s.inProgress := by rw [State.overdueFrames_frame]
@[simp] theorem State.assembly_overdueFrames : (overdueFrames s).assembly = s.assembly := by rw [State.overdueFrames_frame]
@[simp] theorem State.freeCount_overdueFrames : (overdueFrames s).freeCount = s.freeCount := by rw [State.overdueFrames_frame]
@[simp] theorem State.watchdog_overdueFrames : (overdueFrames s).watchdog = s.watchdog := by rw [State.overdueFrames_frame]
@[simp] theorem State.sync_overdueFrames : (overdueFrames s).sync = s.sync := by rw [State.overdueFrames_frame]
@[simp] theorem State.levelsFor_overdueFrames (n : Nat) : (overdueFrames s).levelsFor n = s.levelsFor n := by
  simp [State.levelsFor]
@[simp] theorem State.clocksArrived_overdueFrames : (overdueFrames s).clocksArrived = s.clocksArrived := by
  simp [State.clocksArrived]
end

/-! ### The soft start (R52, R79, R106) -/

/-- A pod as the soft start leaves it. -/
def Pod.softened (pod : Pod) : Pod :=
  { pod with muteEnv := Ramp.flat 0, gateEnv := Ramp.flat 0, contrib := Ramp.flat 0, contribEnd := 0
             level := 0, floor := 0, mutedTalk := false }

/-- The records and the list that the soft start leaves. -/
def State.softened (s : State) : State :=
  ((s.mapPods fun _ pod => pod.softened).mapLegs fun _ leg => leg.zeroed).withTalkers []

/-- The state with ME's NOM gain at unity. -/
def State.atUnity (s : State) : State := { s with nomGain := Ramp.flat unity }

theorem softStart_eq (s : State) : softStart s = s.softened.atUnity.raise .talkers := by
  simp only [softStart, State.softened, State.atUnity, State.withTalkers, Pod.softened]

section
variable (s : State) (p : PodId) (m : LegId) (q : PortId)
@[simp] theorem State.pod_softened : s.softened.pod p = (s.pod p).softened := by simp [State.softened]
@[simp] theorem State.leg_softened : s.softened.leg m = (s.leg m).zeroed := by simp [State.softened]
@[simp] theorem State.port_softened : s.softened.port q = s.port q := by simp [State.softened]
@[simp] theorem State.privacy_withTalkers (l : List Talker) : (s.withTalkers l).privacy = s.privacy := rfl
theorem State.softened_frame : s.softened = { s with pods := s.softened.pods, legs := s.softened.legs, talkers := [] } := by
  simp only [State.softened, State.withTalkers, State.mapPods, State.mapLegs]
@[simp] theorem State.pod_atUnity : s.atUnity.pod p = s.pod p := rfl
@[simp] theorem State.leg_atUnity : s.atUnity.leg m = s.leg m := rfl
@[simp] theorem State.port_atUnity : s.atUnity.port q = s.port q := rfl
end

theorem Ramp.atMost_flat_zero (bound : Nat) : (Ramp.flat 0).atMost bound := ⟨Nat.zero_le _, Nat.zero_le _⟩

theorem Pod.Kept.softened {known : Prop} (p : PodId) (pod : Pod) : pod.Kept known p pod.softened where
  tabled := id
  gained := fun ⟨_, _, _, _, _, hvolume, _⟩ => ⟨Ramp.atMost_flat_zero _, Ramp.atMost_flat_zero _, Nat.zero_le _, Ramp.atMost_flat_zero _,
    Nat.zero_le _, hvolume, Nat.zero_le _, Nat.zero_le _⟩
  linked := fun _ ⟨hcleared, hrest⟩ => ⟨fun hl => by
    obtain ⟨hlink, hholds, -, -, -, -, -, -, -, hmisses, hlocal⟩ := hcleared hl
    exact ⟨hlink, hholds, rfl, rfl, rfl, rfl, rfl, rfl, rfl, hmisses, hlocal⟩, hrest⟩
  faulted := fun _ _ => id
  started := fun _ => ⟨rfl, rfl, rfl, rfl, rfl, rfl, rfl⟩
  env := Nat.zero_le _

theorem Leg.Kept.zeroed (leg : Leg) : leg.Kept leg.zeroed where
  gain := id
  closed := fun _ _ => ⟨rfl, rfl, rfl⟩
  gained := fun _ => ⟨Ramp.atMost_flat_zero _, Ramp.atMost_flat_zero _, Ramp.atMost_flat_zero _⟩
  quiet := fun _ => ⟨rfl, rfl, rfl⟩

theorem KeepsLaws.atUnity (s : State) : KeepsLaws true s s.atUnity where
  tables := id
  legs := id
  gains := fun _ ⟨hp, hm, _, _, _, hr⟩ => ⟨hp, hm, ⟨le_rfl, le_rfl⟩, show 23170 ≤ unity by decide, show 23170 ≤ unity by decide, hr⟩
  ports := id
  store := id
  link := State.lawful.link
  talkers := State.lawful.talkers
  lanes := State.lawful.lanes
  start := fun h hs => by
    obtain ⟨ht, -, hrest⟩ := h.start hs
    exact ⟨ht, rfl, hrest⟩
  faults := State.lawful.faults
  installer := rfl
  commits := fun _ _ _ => id
  calm := fun _ _ => le_rfl
  privacy := fun _ => ⟨rfl, fun _ _ => le_rfl⟩

theorem KeepsLaws.softStart (s : State) : KeepsLaws true s (softStart s) := by
  rw [softStart_eq]
  refine (KeepsLaws.trans ?_ (KeepsLaws.raise _ _ _))
  refine KeepsLaws.trans (KeepsLaws.of_records (known := True) ?_ (fun _ _ => trivial) (fun p => ?_) (fun m => ?_)
    (fun q => ?_) (fun h => ?_) (fun _ => by simp [State.softened]) (fun h x hx hj hd => ?_) (fun _ => by simp [State.softened])) (KeepsLaws.atUnity _)
  · unfold RoomOnly; rw [State.softened_frame]
  · rw [State.pod_softened]; exact Pod.Kept.softened p _
  · rw [State.leg_softened]; exact Leg.Kept.zeroed _
  · rw [State.port_softened]; exact Port.Kept.refl _
  · have hempty : s.softened.talkers = [] := by rw [State.softened_frame]
    have htuning : s.softened.tuning = s.tuning := by rw [State.softened_frame]
    exact h.talkers.of_sublist_same (by simp [hempty]) htuning fun e he => by rw [hempty] at he; cases he
  · have hslot : s.softened.slot = s.slot := by rw [State.softened_frame]
    rw [State.pod_softened]; exact h.2 x (hslot ▸ hx) hj hd

/-! ### The sync state (R113 to R115) -/

/-- A change of the sync state, with its watchdog and its fault record, to other than STARTING. -/
theorem KeepsLaws.withSync (s : State) {sync : SyncState} (watchdog : Bool) (clock : FaultRecord) (hsync : sync ≠ .starting)
    (lanes : s.lawful → { s with sync := sync, watchdog := watchdog, audioClock := clock }.lanesSound)
    (faults : s.lawful → clock.sound ∧ (clock.condition = true ↔ sync = .missing)) :
    KeepsLaws true s { s with sync := sync, watchdog := watchdog, audioClock := clock } where
  tables := id
  legs := id
  gains := fun _ => id
  ports := id
  store := id
  link := State.lawful.link
  talkers := State.lawful.talkers
  lanes := lanes
  start := fun _ hs => absurd hs hsync
  faults := fun h => ⟨h.faults.1, h.faults.2.1, faults h⟩
  installer := rfl
  commits := fun _ _ _ => id
  calm := fun _ _ => le_rfl
  privacy := fun _ => ⟨rfl, fun _ _ => le_rfl⟩

/-- The lanes run once a complete frame has come, with the watchdog running and AUDIO_CLOCK absent (R113, R115). -/
def State.laneStarted (s : State) (clock : FaultRecord) : State := { s with sync := .running, watchdog := true, audioClock := clock }

theorem KeepsLaws.laneStarted (s : State) {clock : FaultRecord} (hunderway : s.underway = [])
    (hclock : s.lawful → clock.sound ∧ clock.condition = false) : KeepsLaws true s (s.laneStarted clock) := by
  refine KeepsLaws.withSync s true clock (by decide) (fun h => ?_) fun h => ?_
  · obtain ⟨hwaiting, hprogress, hassembly, hgate, hmix, -, hlength, -, hidle⟩ := h.lanes
    exact ⟨hwaiting, hprogress, hassembly, hgate, hmix, ⟨fun _ hs => (by cases hs), fun _ => rfl⟩, hlength, fun _ => hunderway,
      fun hs => absurd rfl hs⟩
  · obtain ⟨hsound, habsent⟩ := hclock h
    exact ⟨hsound, by rw [habsent]; decide⟩

theorem takeSync_of_missing {s : State} (h : s.sync = .missing) : takeSync s =
    softStart ((s.laneStarted (s.audioClock.report false)).raiseIf (s.audioClock.reportNotice false) .faults) := by
  simp only [takeSync, h]; rfl

theorem KeepsLaws.takeSync (s : State) (hunderway : s.underway = []) : KeepsLaws true s (takeSync s) := by
  cases hs : s.sync with
  | running => simpa [Machine.takeSync, hs] using KeepsLaws.refl true s
  | starting =>
    have hlanes : Machine.takeSync s = { s with sync := .running, watchdog := s.watchdog, audioClock := s.audioClock } := by
      simp only [Machine.takeSync, hs]
    rw [hlanes]
    refine KeepsLaws.withSync s _ _ (by decide) (fun h => ?_) fun h => ?_
    · obtain ⟨hwaiting, hprogress, hassembly, hgate, hmix, hwatchdog, hlength, -, hidle⟩ := h.lanes
      exact ⟨hwaiting, hprogress, hassembly, hgate, hmix, ⟨fun _ hs => (by cases hs), fun _ => hwatchdog.2 (by rw [hs]; decide)⟩, hlength,
        fun _ => hunderway, fun hs => absurd rfl hs⟩
    · obtain ⟨-, -, hsound, hcondition⟩ := h.faults
      rw [hs] at hcondition
      exact ⟨hsound, by simpa using hcondition⟩
  | missing =>
    rw [takeSync_of_missing hs]
    exact ((KeepsLaws.laneStarted s hunderway fun _ => ⟨FaultRecord.sound_report _ _, FaultRecord.condition_report _ _⟩).trans
      (KeepsLaws.raiseIf _ _ _ _)).trans (KeepsLaws.softStart _)

theorem State.sync_takeSync (s : State) : (takeSync s).sync = .running := by
  cases hs : s.sync with
  | running => simp [takeSync, hs]
  | starting => simp [takeSync, hs]
  | missing =>
    rw [takeSync_of_missing hs, softStart_eq, State.raise_eq, State.atUnity, State.softened_frame, State.raiseIf_eq]
    rfl

end Sys2Proof.Machine
end

section
/-! Sample periods, breaks of the lanes and the watchdog keep the laws. -/

namespace Sys2Proof.Machine

/-! ### Frame boundaries (R110, R111) -/

/-- AL moves its output frames on (R111). -/
def State.movedOn (s : State) : State := { s with inProgress := s.waiting, waiting := none, assembly := [] }

/-- AL hands GE a complete frame (R110). -/
def State.handFrame (s : State) (frame : List LaneInput) : State := { s with gateInput := some ⟨frame, true⟩ }

theorem frameBoundary_eq (frame : List LaneInput) (s : State) :
    frameBoundary frame s = ((takeSync (overdueFrames s).movedOn).handFrame frame).settle := rfl

theorem KeepsLaws.movedOn (s : State) : KeepsLaws true s s.movedOn :=
  KeepsLaws.of_lanes rfl fun h => by
    obtain ⟨hwaiting, -, -, hgate, hmix, hwatchdog, hlength, hclear, hidle⟩ := h.lanes
    refine ⟨fun _ hf => (by cases hf), hwaiting, show 0 < frameLength by decide, hgate, hmix, hwatchdog, hlength, hclear, fun hs => ?_⟩
    obtain ⟨hg, hm, hw, -⟩ := hidle hs
    exact ⟨hg, hm, rfl, hw⟩

theorem KeepsLaws.frameBoundary {frame : List LaneInput} {s t : State} (h : KeepsLaws true s t)
    (hlength : s.lawful → frame.length = frameLength) (hunderway : t.underway = []) : KeepsLaws true s (frameBoundary frame t) := by
  rw [frameBoundary_eq]
  have hsync : KeepsLaws true s (Machine.takeSync (Machine.overdueFrames t).movedOn) :=
    h.trans ((KeepsLaws.overdueFrames t).trans ((KeepsLaws.movedOn _).trans (KeepsLaws.takeSync _
      ((State.underway_overdueFrames t).trans hunderway))))
  refine (hsync.thenLanes rfl fun hs => ?_).trans (KeepsLaws.settle _ _)
  obtain ⟨hwaiting, hprogress, hassembly, -, hmix, hwatchdog, hlevels, hclear, -⟩ := (hsync.lawful hs).lanes
  refine ⟨hwaiting, hprogress, hassembly, fun w hw => ?_, hmix, hwatchdog, hlevels, hclear, fun hne => absurd (State.sync_takeSync _) hne⟩
  obtain rfl := Option.some.inj hw
  exact hlength hs

/-! ### Sample periods (R109, R110) -/

/-- The period's slots have been on the wires (R111). -/
def State.shownSlots (s : State) (levels : List LaneLevels) : State := { s with lanesOut := levels, underway := [] }

theorem KeepsLaws.shownSlots (s : State) (levels : List LaneLevels) : KeepsLaws true s (s.shownSlots levels) :=
  KeepsLaws.of_lanes rfl fun h => by
    obtain ⟨hwaiting, hprogress, hassembly, hgate, hmix, hwatchdog, -, -, hidle⟩ := h.lanes
    exact ⟨hwaiting, hprogress, hassembly, hgate, hmix, hwatchdog, show 0 < periodClocks by decide, fun _ => rfl, hidle⟩

theorem samplePeriod_eq (clocks : List LaneClock) (s : State) : samplePeriod clocks s =
    if (s.assembly ++ [slotsClocked clocks]).length < frameLength
    then { s.shownSlots (s.levelsFor clocks.length) with assembly := s.assembly ++ [slotsClocked clocks] }
    else frameBoundary (s.assembly ++ [slotsClocked clocks]) (s.shownSlots (s.levelsFor clocks.length)) := rfl

theorem KeepsLaws.withAssembly (s : State) {frame : List LaneInput} (hlength : frame.length < frameLength) :
    KeepsLaws true s { s with assembly := frame } :=
  KeepsLaws.of_lanes rfl fun h => by
    obtain ⟨hwaiting, hprogress, -, hrest⟩ := h.lanes
    exact ⟨hwaiting, hprogress, hlength, hrest⟩

theorem KeepsLaws.samplePeriod (s : State) (clocks : List LaneClock) : KeepsLaws true s (samplePeriod clocks s) := by
  rw [samplePeriod_eq]
  have hshown := KeepsLaws.shownSlots s (s.levelsFor clocks.length)
  split
  · exact hshown.trans (KeepsLaws.withAssembly _ ‹_›)
  · rename_i hfull
    refine hshown.frameBoundary (fun h => ?_) rfl
    have hassembly := h.lanes.2.2.1
    rw [List.length_append, List.length_singleton] at *
    omega

/-! ### Breaks (R112, R114) -/

theorem WorkFrame.length_undelivered {x : Option WorkFrame} (h : ∀ w ∈ x, w.samples.length = frameLength) :
    ∀ w ∈ x.map WorkFrame.undelivered, w.samples.length = frameLength := fun w hw => by
  obtain ⟨v, hv, rfl⟩ := Option.map_eq_some_iff.1 hw
  exact h v hv

theorem KeepsLaws.breakOff (s : State) : KeepsLaws true s (breakOff s) :=
  KeepsLaws.of_lanes rfl fun h => by
    obtain ⟨-, -, -, hgate, hmix, hwatchdog, hlength, hclear, hidle⟩ := h.lanes
    refine ⟨fun _ hf => (by cases hf), fun _ hf => (by cases hf), show 0 < frameLength by decide, WorkFrame.length_undelivered hgate,
      WorkFrame.length_undelivered hmix, hwatchdog, hlength, hclear, fun hs => ?_⟩
    obtain ⟨hg, hm, -, -⟩ := hidle hs
    exact ⟨by rw [Machine.breakOff, hg]; rfl, by rw [Machine.breakOff, hm]; rfl, rfl, rfl⟩

/-- The lanes have stopped for want of a clock (R114). -/
def State.laneStopped (s : State) (levels : List LaneLevels) (clock : FaultRecord) : State :=
  { s with underway := levels, sync := .missing, watchdog := false, audioClock := clock }

theorem KeepsLaws.laneStopped (s : State) {levels : List LaneLevels} {clock : FaultRecord} (hlevels : s.lawful → levels.length < periodClocks)
    (hclock : clock.sound ∧ clock.condition = true)
    (hidle : s.gateInput = none ∧ s.mixInput = none ∧ s.waiting = none ∧ s.inProgress = none) :
    KeepsLaws true s (s.laneStopped levels clock) where
  tables := id
  legs := id
  gains := fun _ => id
  ports := id
  store := id
  link := State.lawful.link
  talkers := State.lawful.talkers
  lanes := fun h => by
    obtain ⟨hwaiting, hprogress, hassembly, hgate, hmix, -⟩ := h.lanes
    exact ⟨hwaiting, hprogress, hassembly, hgate, hmix, ⟨fun hw => (by cases hw), fun hs => absurd rfl hs⟩, hlevels h,
      fun hs => absurd rfl hs, fun _ => hidle⟩
  start := fun _ hs => by cases hs
  faults := fun h => ⟨h.faults.1, h.faults.2.1, hclock.1, fun _ => rfl, fun _ => hclock.2⟩
  installer := rfl
  commits := fun _ _ _ => id
  calm := fun _ _ => le_rfl
  privacy := fun _ => ⟨rfl, fun _ _ => le_rfl⟩

theorem State.levelsFor_lt (s : State) (h : s.underway.length < periodClocks) : (s.levelsFor s.clocksArrived).length < periodClocks := by
  obtain ⟨-, hlt⟩ := s.clocksArrived_bounds h
  simp only [State.levelsFor, List.length_append, List.length_drop, levelsAt_length, periodClocks] at h ⊢
  omega

theorem KeepsLaws.shortPeriod (s : State) :
    KeepsLaws true s { Machine.breakOff s with lanesOut := s.levelsFor s.clocksArrived, underway := [] } :=
  (KeepsLaws.breakOff s).trans (KeepsLaws.shownSlots _ _)

theorem execWatchdogExpiry_eq {s : State} (h : s.watchdog = true) : execWatchdogExpiry s =
    .next (((breakOff (overdueFrames s)).laneStopped (s.levelsFor s.clocksArrived) ((overdueFrames s).audioClock.report true)).raiseIf
      ((overdueFrames s).audioClock.reportNotice true) .faults).settle := by
  rw [execWatchdogExpiry, if_pos h]; rfl

theorem KeepsLaws.watchdogExpired (s : State) : KeepsLaws true s
    (((Machine.breakOff (Machine.overdueFrames s)).laneStopped (s.levelsFor s.clocksArrived) ((Machine.overdueFrames s).audioClock.report true)).raiseIf
      ((Machine.overdueFrames s).audioClock.reportNotice true) .faults).settle := by
  refine (KeepsLaws.overdueFrames s).trans ((KeepsLaws.breakOff _).trans ((KeepsLaws.laneStopped _ (fun h => ?_)
    ⟨FaultRecord.sound_report _ _, FaultRecord.condition_report _ _⟩ ⟨?_, ?_, rfl, rfl⟩).trans
    ((KeepsLaws.raiseIf _ _ _ _).trans (KeepsLaws.settle _ _))))
  · obtain ⟨-, -, -, -, -, -, hlength, -⟩ := h.lanes
    exact s.levelsFor_lt (by simpa [Machine.breakOff] using hlength)
  · simp [Machine.breakOff]
  · simp [Machine.breakOff]

end Sys2Proof.Machine
end

section
/-! The resets establish the laws (R172, R179, R180). -/

namespace Sys2Proof.Machine

/-! ### What a load leaves alone (R180) -/

/-- A change of the room tables, the records, the talker list and the slot alone. -/
def TablesOnly (s t : State) : Prop := t = { s with
  pods := t.pods, legs := t.legs, ports := t.ports, tuning := t.tuning, talkers := t.talkers, slot := t.slot
  lastPolled := t.lastPolled }

namespace TablesOnly

variable {s t u : State}

theorem refl (s : State) : TablesOnly s s := rfl

theorem trans (hst : TablesOnly s t) (htu : TablesOnly t u) : TablesOnly s u := by
  unfold TablesOnly at *
  rw [htu, hst]

theorem raiseIf (s : State) (b : Bool) (c : Category) : TablesOnly s (s.raiseIf b c) := by
  unfold TablesOnly; rw [State.raiseIf_eq]

theorem mapPods (s : State) (f : PodId → Pod → Pod) : TablesOnly s (s.mapPods f) := by
  unfold TablesOnly; simp only [State.mapPods]

theorem mapLegs (s : State) (f : LegId → Leg → Leg) : TablesOnly s (s.mapLegs f) := by
  unfold TablesOnly; simp only [State.mapLegs]

theorem withTalkers (s : State) (l : List Talker) : TablesOnly s (s.withTalkers l) := rfl

theorem settle (s : State) : TablesOnly s s.settle := by
  unfold TablesOnly; rw [State.settle_eq]

theorem beginSlot (s : State) (p : PodId) : TablesOnly s (s.beginSlot p) := rfl

theorem beginFirstSlot (before after : State) : TablesOnly after (beginFirstSlot before after) := by
  unfold Machine.beginFirstSlot
  split
  · split
    · exact refl _
    · exact (settle _).trans (beginSlot _ _)
  · exact refl _

theorem listPods (s : State) (named : PodSet) : TablesOnly s (s.listPods named) :=
  (mapPods s _).trans ((raiseIf _ _ _).trans ((raiseIf _ _ _).trans (beginFirstSlot _ _)))

theorem unlisted (s : State) (gone : PodId → Bool) : TablesOnly s (s.unlisted gone) := by
  unfold TablesOnly; rw [State.unlisted_eq]

theorem unlistPods (s : State) (named : PodSet) : TablesOnly s (s.unlistPods named) := by
  obtain ⟨_, _, _, _, h⟩ := s.unlistPods_eq named
  rw [h]
  exact (unlisted s _).trans ((raiseIf _ _ _).trans ((raiseIf _ _ _).trans ((raiseIf _ _ _).trans (raiseIf _ _ _))))

theorem loadRoster (s : State) : TablesOnly s s.loadRoster :=
  ((listPods s _).trans (unlistPods _ _)).trans ((mapPods _ _).trans ((withTalkers _ _).trans (raiseIf _ _ _)))

theorem loadGains (s : State) : TablesOnly s s.loadGains := (mapPods s _).trans (mapLegs _ _)

theorem tune (s : State) (x : Param) (v : Nat) : TablesOnly s (s.tune x v) := by
  by_cases h : s.tuning.get x = v
  · rw [State.tune, if_pos h]; exact refl _
  · rw [State.tune_of_ne h]
    exact (show TablesOnly s (s.tuned x v) from rfl).trans (raiseIf _ _ _)

theorem loadTuning (s : State) : TablesOnly s s.loadTuning := by
  unfold State.loadTuning
  generalize s.loadedParam = v
  generalize loadOrder = xs
  induction xs generalizing s with
  | nil => exact refl _
  | cons x xs ih => exact (tune s x _).trans (ih _)

theorem load (s : State) : TablesOnly s s.load := (loadRoster s).trans ((loadGains _).trans (loadTuning _))

end TablesOnly

/-! ### The blocks at their reset values (R172, R179) -/

section
variable (s : State) (b : Bool) (p : PodId) (m : LegId) (q : PortId)

@[simp] theorem State.pod_blocksReset : (s.blocksReset b).pod p = Pod.base p := by
  simp only [State.blocksReset, State.pod, Fin.getElem_fin, Vector.getElem_ofFn]

@[simp] theorem State.leg_blocksReset : (s.blocksReset b).leg m = Leg.base := by
  simp only [State.blocksReset, State.leg, State.reset, Fin.getElem_fin, Vector.getElem_replicate]

@[simp] theorem State.port_blocksReset : (s.blocksReset b).port q = Port.base := by
  simp only [State.blocksReset, State.port, State.reset, Fin.getElem_fin, Vector.getElem_replicate]

end

theorem Pod.tabled_base (p : PodId) : (Pod.base p).tabled p := by
  refine ⟨show 1 ≤ 3 by decide, ?_, show 65536 ≤ maxTrim by decide, show 65536 ≤ unity by decide, fun h => (by cases h)⟩
  simp [Pod.base, PodSet.has]

theorem State.tablesSound_blocksReset (s : State) (b : Bool) : (s.blocksReset b).tablesSound := by
  rw [State.tablesSound_iff]
  refine ⟨fun p => ?_, fun m => ?_, fun x _ => Tuning.defaults_range x⟩
  · rw [State.pod_blocksReset]; exact Pod.tabled_base p
  · rw [State.leg_blocksReset]; decide

theorem Leg.quiet_base : Leg.base.quiet := ⟨rfl, rfl, rfl⟩

theorem State.legsSound_blocksReset (s : State) (b : Bool) : (s.blocksReset b).legsSound := fun m _ => by
  rw [State.leg_blocksReset]; exact Leg.quiet_base

theorem State.gainsSound_blocksReset (s : State) (b : Bool) : (s.blocksReset b).gainsSound := by
  rw [State.gainsSound_iff]
  refine ⟨fun p => ?_, fun m => ?_, ⟨le_rfl, le_rfl⟩, show 23170 ≤ 65536 by decide, show 23170 ≤ 65536 by decide,
    Ramp.atMost_flat_zero _⟩
  · rw [State.pod_blocksReset]
    exact ⟨Ramp.atMost_flat_zero _, Ramp.atMost_flat_zero _, Nat.zero_le _, Ramp.atMost_flat_zero _, Nat.zero_le _, ⟨le_rfl, le_rfl⟩,
      Nat.zero_le _, Nat.zero_le _⟩
  · rw [State.leg_blocksReset]
    exact ⟨Ramp.atMost_flat_zero _, Ramp.atMost_flat_zero _, Ramp.atMost_flat_zero _⟩

theorem Port.fits_base : Port.base.fits := by
  unfold Port.fits
  decide

theorem Port.lostFits_base : Port.base.lostFits := by
  unfold Port.lostFits
  decide

theorem Pod.linked_base (p : PodId) : (Pod.base p).linked := by
  have hreach : ¬ (Pod.base p).reachable := fun h => h.elim (fun h => by cases h) fun h => by cases h
  refine ⟨fun _ => ⟨rfl, rfl, rfl, rfl, rfl, rfl, rfl, rfl, rfl, rfl, rfl⟩, fun h => (by cases h),
    ⟨fun h => (by cases h), fun h => absurd h hreach⟩, fun h => ?_, fun b hb => (by cases hb), Nat.zero_le _, Nat.zero_le _,
    Nat.zero_le _, fun _ => Nat.zero_le _⟩
  exact h.elim (fun h => absurd h (Nat.lt_irrefl _)) fun h => absurd h (Nat.lt_irrefl _)

theorem FaultRecord.sound_clear : FaultRecord.clear.sound := fun h => by cases h

theorem Pod.faulted_base (p : PodId) : (Pod.base p).faulted := by
  refine ⟨⟨FaultRecord.sound_clear, FaultRecord.sound_clear, FaultRecord.sound_clear, FaultRecord.sound_clear⟩,
    ⟨fun h => (by cases h), fun h => (by cases h)⟩, fun h => (by cases h), rfl, ⟨fun h => (by cases h), fun h => ?_⟩,
    Nat.zero_le _, Nat.zero_le _, Nat.zero_le _⟩
  rcases h with h | h | h <;> cases h

theorem State.portsSound_blocksReset (s : State) (b : Bool) : (s.blocksReset b).portsSound := by
  rw [State.portsSound_iff]
  simp only [State.port_blocksReset]
  exact ⟨fun _ => Port.fits_base, fun _ _ _ _ => .inl rfl⟩

theorem State.lawful_blocksReset {s : State} (h : s.storeSound) (b : Bool) : (s.blocksReset b).lawful where
  tables := s.tablesSound_blocksReset b
  link := by
    rw [State.linkSound_iff]
    refine ⟨fun p => ?_, fun x hx => (by cases hx)⟩
    rw [State.pod_blocksReset]
    exact Pod.linked_base p
  ports := s.portsSound_blocksReset b
  talkers := ⟨List.nodup_nil, Nat.zero_le _, fun _ he => (by cases he), fun _ he => (by cases he), fun _ he => (by cases he),
    fun _ _ he => (by cases he)⟩
  legs := s.legsSound_blocksReset b
  gains := s.gainsSound_blocksReset b
  lanes := ⟨fun _ hf => (by cases hf), fun _ hf => (by cases hf), show 0 < 48 by decide, fun _ hw => (by cases hw), fun _ hw => (by cases hw),
    ⟨fun _ hs => (by cases hs), fun _ => rfl⟩, show 0 < 256 by decide, fun _ => rfl, fun _ => ⟨rfl, rfl, rfl, rfl⟩⟩
  start := fun _ => ⟨rfl, rfl, fun p => by rw [State.pod_blocksReset]; exact ⟨rfl, rfl, rfl, rfl, rfl, rfl, rfl⟩,
    fun m => by rw [State.leg_blocksReset]; exact Leg.quiet_base⟩
  store := ⟨State.wf_tornStore h, trivial⟩
  faults := by
    rw [State.faultsSound_iff]
    refine ⟨fun p => ?_, fun q => ?_, fun hc => (by cases hc), ⟨fun hc => (by cases hc), fun hc => (by cases hc)⟩⟩
    · rw [State.pod_blocksReset]
      exact Pod.faulted_base p
    · rw [State.port_blocksReset]
      exact Port.lostFits_base

/-! ### The load of a reset (R180) -/

/-- The values that a reset sets beyond its load (R19, R129, Table 5-1). -/
def State.finishReset (s : State) : State :=
  { s with
    privacy := if s.tuning.startPrivate = 1 then some .start else none
    reinforceGain := Ramp.flat s.tuning.reinforce
    slot := none
    lastPolled := 0 }

/-- A pod whose volume gain stands at its volume (Table 5-1). -/
def Pod.atVolume (pod : Pod) : Pod := { pod with volumeGain := Ramp.flat pod.volume }

theorem State.resetLoad_eq (s : State) : s.resetLoad = (s.load.mapPods fun _ pod => pod.atVolume).finishReset := by
  simp only [State.resetLoad, State.finishReset, Pod.atVolume, State.tuning_mapPods]

theorem KeepsLaws.atVolume {s : State} (h : s.tablesSound) : KeepsLaws false s (s.mapPods fun _ pod => pod.atVolume) := by
  refine KeepsLaws.mapPods s (fun p => ⟨id, fun ⟨hmute, hgate, hnow, hcontrib, hend, _, htracked⟩ => ?_, fun _ => id, fun _ _ => id, id,
    le_rfl⟩) (fun _ => rfl) (fun _ => rfl) fun _ => rfl
  obtain ⟨-, -, -, hvolume, -⟩ := h.1 p
  exact ⟨hmute, hgate, hnow, hcontrib, hend, ⟨hvolume, hvolume⟩, htracked⟩

/-- The values that a reset sets keep the laws before the first frame (R113). -/
theorem KeepsLaws.finishReset (s : State) (h : s.tablesSound) (hstart : s.sync = .starting) : KeepsLaws false s s.finishReset where
  tables := id
  legs := id
  gains := fun _ ⟨hp, hm, hn, hnp, hnn, _⟩ => ⟨hp, hm, hn, hnp, hnn, ⟨(h.range .reinforce).2, (h.range .reinforce).2⟩⟩
  ports := id
  store := id
  link := fun h => ⟨h.link.1, fun _ hx => (by cases hx)⟩
  talkers := fun h => by
    have hempty : s.finishReset.talkers = [] := (h.start hstart).1
    exact h.talkers.of_sublist_same (by rw [hempty]; exact List.nil_sublist _) rfl fun e he => by rw [hempty] at he; cases he
  lanes := State.lawful.lanes
  start := State.lawful.start
  faults := State.lawful.faults
  installer := rfl
  commits := fun _ _ _ => id
  calm := fun _ _ => le_rfl
  privacy := fun h => by cases h

theorem State.sync_load_blocksReset (s : State) (b : Bool) : (s.blocksReset b).load.sync = .starting := by
  rw [TablesOnly.load (s.blocksReset b)]; rfl

/-- The load and the settled values of a reset keep the laws that the blocks' reset values meet (R172, R179, R180). -/
theorem KeepsLaws.resetLoad (s : State) (b : Bool) : KeepsLaws false (s.blocksReset b) (s.blocksReset b).resetLoad.settle := by
  have hload := KeepsLaws.load (s.blocksReset b)
  have htables := hload.tables (s.tablesSound_blocksReset b)
  have hvolume := KeepsLaws.atVolume htables
  rw [State.resetLoad_eq]
  exact hload.trans (hvolume.trans ((KeepsLaws.finishReset _ (hvolume.tables htables)
    ((State.sync_mapPods _ _).trans (s.sync_load_blocksReset b))).trans (KeepsLaws.settle _ _)))

/-- A reset loses no COMMITTED section (R172, R179). -/
theorem State.commitMap_resetLoad (s : State) (b : Bool) : (s.blocksReset b).resetLoad.settle.commitMap = (s.blocksReset b).commitMap := by
  rw [State.settle_eq, State.resetLoad_eq]
  simp only [State.finishReset, State.mapPods]
  rw [TablesOnly.load (s.blocksReset b)]

theorem State.commitMap_blocksReset_mono (s : State) (b : Bool) {x : Nat} (h : s.commitMap.getLsbD x = true) :
    (s.blocksReset b).commitMap.getLsbD x = true := by
  simp only [State.blocksReset]
  split
  · split
    · exact commitSection_mono _ h
    · exact h
  · exact h

end Sys2Proof.Machine
end

section
/-! Every command but a reset keeps the laws. -/

namespace Sys2Proof.Machine

/-! ### The rows of the opcode table -/

/-- A claim of every command holds once it holds of the request rows' commands and of the other rows. -/
theorem Instr.byRows {P : Instr → Prop} (rows : ∀ (row : RequestRow) q, P (row.command q))
    (powerUp : ∀ b, P (.powerUp b)) (resetN : P .resetN) (selection : ∀ q, P (.selection q))
    (deselection : ∀ q clocked, P (.deselection q clocked)) (storeCompletion : P .storeCompletion)
    (eraseBlockCompletion : P .eraseBlockCompletion) (operationTimeout : P .operationTimeout)
    (presenceTimerExpiry : ∀ q, P (.presenceTimerExpiry q)) (slotStart : P .slotStart)
    (replyComplete : ∀ a b c d e, P (.replyComplete a b c d e)) (replyWindowCloses : P .replyWindowCloses)
    (shortPress : ∀ a, P (.shortPress a)) (longPress : ∀ a, P (.longPress a)) (shortPeriod : P .shortPeriod)
    (samplePeriodComplete : ∀ clocks, P (.samplePeriodComplete clocks)) (watchdogExpiry : P .watchdogExpiry)
    (frameWork : P .frameWork) (mixFrameEvent : P .mixFrameEvent) (replyFullyShiftedOut : ∀ q, P (.replyFullyShiftedOut q))
    (c : Instr) : P c := by
  cases c with
  | badFrame q => exact rows .badFrame q
  | unknown q => exact rows .unknown q
  | join q => exact rows .join q
  | leave q => exact rows .leave q
  | pulse q => exact rows .pulse q
  | notices q => exact rows .notices q
  | watch q => exact rows .watch q
  | ident q => exact rows .ident q
  | holdOnPods q => exact rows .holdOnPods q
  | holdOnLegs q => exact rows .holdOnLegs q
  | holdOff q => exact rows .holdOff q
  | releaseAll q => exact rows .releaseAll q
  | privacyOn q => exact rows .privacyOn q
  | privacyOff q => exact rows .privacyOff q
  | legState q => exact rows .legState q
  | gainTrim q => exact rows .gainTrim q
  | gainVolume q => exact rows .gainVolume q
  | gainLegGain q => exact rows .gainLegGain q
  | tuneSet q => exact rows .tuneSet q
  | tuneQuery q => exact rows .tuneQuery q
  | rosterList q => exact rows .rosterList q
  | rosterUnlist q => exact rows .rosterUnlist q
  | rosterChair q => exact rows .rosterChair q
  | rosterClass q => exact rows .rosterClass q
  | exclude q => exact rows .exclude q
  | readChannel q => exact rows .readChannel q
  | readTalkers q => exact rows .readTalkers q
  | readLegs q => exact rows .readLegs q
  | readPorts q => exact rows .readPorts q
  | readFaults q => exact rows .readFaults q
  | readRoom q => exact rows .readRoom q
  | clearFaults q => exact rows .clearFaults q
  | storeRead q => exact rows .storeRead q
  | storeStatus q => exact rows .storeStatus q
  | storeWrite q => exact rows .storeWrite q
  | storeCommit q => exact rows .storeCommit q
  | storeErase q => exact rows .storeErase q
  | profileLoad q => exact rows .profileLoad q
  | powerUp b => exact powerUp b
  | resetN => exact resetN
  | selection q => exact selection q
  | deselection q clocked => exact deselection q clocked
  | storeCompletion => exact storeCompletion
  | eraseBlockCompletion => exact eraseBlockCompletion
  | operationTimeout => exact operationTimeout
  | presenceTimerExpiry q => exact presenceTimerExpiry q
  | slotStart => exact slotStart
  | replyComplete a b c d e => exact replyComplete a b c d e
  | replyWindowCloses => exact replyWindowCloses
  | shortPress a => exact shortPress a
  | longPress a => exact longPress a
  | shortPeriod => exact shortPeriod
  | samplePeriodComplete clocks => exact samplePeriodComplete clocks
  | watchdogExpiry => exact watchdogExpiry
  | frameWork => exact frameWork
  | mixFrameEvent => exact mixFrameEvent
  | replyFullyShiftedOut q => exact replyFullyShiftedOut q

/-! ### The events, row by row -/

/-- The claim of the step lemmas: a command that completes keeps the laws. -/
def Instr.KeepsAll (c : Instr) : Prop := ∀ s t : State, exec c s = .next t → ∃ frames, KeepsLaws frames s t

theorem Instr.keepsAll_of_next {c : Instr} {next : State → State} (frames : Bool) (h : ∀ s, exec c s = .next (next s))
    (keeps : ∀ s, KeepsLaws frames s (next s)) : Instr.KeepsAll c := fun s t ht => by
  obtain rfl : next s = t := Host.Outcome.next.inj ((h s).symm.trans ht)
  exact ⟨frames, keeps s⟩

theorem Instr.keepsAll_of_exec {c : Instr} (keeps : ∀ s t, exec c s = .next t → KeepsLaws false s t) : Instr.KeepsAll c :=
  fun s t ht => ⟨false, keeps s t ht⟩

theorem Instr.keepsAll_command (row : RequestRow) (q : PortId) : Instr.KeepsAll (row.command q) :=
  Instr.keepsAll_of_next false (exec_command row q) (KeepsLaws.takeTurn row q)

theorem KeepsLaws.selection {q : PortId} {s t : State} (h : execSelection q s = .next t) : KeepsLaws false s t := by
  unfold execSelection at h
  split at h
  · cases h; exact KeepsLaws.refl _ s
  · cases h; exact KeepsLaws.modPort _ s q ⟨id, .inl rfl, id⟩

theorem KeepsLaws.deselection {q : PortId} {clocked : List Bool} {s t : State} (h : execDeselection q clocked s = .next t) :
    KeepsLaws false s t := by
  unfold execDeselection at h
  split at h
  · cases h; exact KeepsLaws.refl _ s
  · cases h
    refine KeepsLaws.trans ?_ (KeepsLaws.modPort _ _ q (Port.Kept.deselect _ _ _))
    split
    · exact KeepsLaws.completeShift q s
    · exact KeepsLaws.refl _ s

theorem KeepsLaws.presenceTimerExpiry {q : PortId} {s t : State} (h : execPresenceTimerExpiry q s = .next t) : KeepsLaws false s t := by
  unfold execPresenceTimerExpiry at h
  split at h
  · rename_i hstate
    cases h
    exact (KeepsLaws.enterStale s q (by simp [Port.joined, hstate])).trans (KeepsLaws.settle _ _)
  · cases h
    exact (KeepsLaws.enterAbsent s q).trans (KeepsLaws.settle _ _)
  · cases h; exact KeepsLaws.refl _ s
  · cases h; exact KeepsLaws.refl _ s

theorem KeepsLaws.shortPress {a : Nat} {s t : State} (h : execShortPress a s = .next t) : KeepsLaws false s t := by
  unfold execShortPress at h
  split at h
  · cases h; exact KeepsLaws.refl _ s
  · cases h
    split
    · exact KeepsLaws.deliverShort s _ ‹_›
    · exact KeepsLaws.refl _ s

theorem KeepsLaws.longPress {a : Nat} {s t : State} (h : execLongPress a s = .next t) : KeepsLaws false s t := by
  unfold execLongPress at h
  split at h
  · cases h; exact KeepsLaws.refl _ s
  · cases h
    split
    · exact KeepsLaws.deliverLong s _
    · exact KeepsLaws.refl _ s

theorem KeepsLaws.replyComplete {a b c d e : List Bool} {s t : State} (h : execReplyComplete a b c d e s = .next t) :
    KeepsLaws false s t := by
  unfold execReplyComplete at h
  split at h
  · cases h
    exact KeepsLaws.endReception s fun x hx => KeepsLaws.judgeChars hx _ _ _ _ _
  · cases h; exact KeepsLaws.refl _ s

theorem KeepsLaws.samplePeriodComplete (clocks : List LaneClock) (s : State) :
    KeepsLaws true s (if periodClocks ≤ clocks.length then Machine.samplePeriod clocks s else s) := by
  split
  · exact KeepsLaws.samplePeriod s clocks
  · exact KeepsLaws.refl _ s

theorem Instr.keepsAll_watchdogExpiry : Instr.KeepsAll .watchdogExpiry := fun s t h => by
  by_cases hw : s.watchdog = true
  · obtain rfl := Host.Outcome.next.inj ((execWatchdogExpiry_eq hw).symm.trans h)
    exact ⟨true, KeepsLaws.watchdogExpired s⟩
  · have hidle : execWatchdogExpiry s = .next s := by rw [execWatchdogExpiry, if_neg hw]
    obtain rfl := Host.Outcome.next.inj (hidle.symm.trans h)
    exact ⟨true, KeepsLaws.refl _ s⟩

/-- Power-up and RESET_N. -/
def Instr.isReset : Instr → Bool
  | .powerUp _ => true
  | .resetN => true
  | _ => false

/-- Every command but a reset keeps the laws (R1). -/
theorem Instr.keepsAll_of_not_reset (c : Instr) : Instr.isReset c = false → Instr.KeepsAll c := by
  refine Instr.byRows (P := fun c => Instr.isReset c = false → Instr.KeepsAll c) (fun row q _ => Instr.keepsAll_command row q)
    (fun _ h => (by cases h)) (fun h => (by cases h)) (fun q _ => ?_) (fun q clocked _ => ?_) (fun _ => ?_) (fun _ => ?_) (fun _ => ?_)
    (fun q _ => ?_) (fun _ => ?_) (fun a b c d e _ => ?_) (fun _ => ?_) (fun a _ => ?_) (fun a _ => ?_) (fun _ => ?_) (fun clocks _ => ?_)
    (fun _ => Instr.keepsAll_watchdogExpiry) (fun _ => ?_) (fun _ => ?_) (fun q _ => ?_) c
  · exact Instr.keepsAll_of_exec fun _ _ => KeepsLaws.selection
  · exact Instr.keepsAll_of_exec fun _ _ => KeepsLaws.deselection
  · exact Instr.keepsAll_of_exec fun _ _ => KeepsLaws.execStoreCompletion
  · exact Instr.keepsAll_of_exec fun _ _ => KeepsLaws.execEraseBlockCompletion
  · exact Instr.keepsAll_of_exec fun _ _ => KeepsLaws.execOperationTimeout
  · exact Instr.keepsAll_of_exec fun _ _ => KeepsLaws.presenceTimerExpiry
  · exact Instr.keepsAll_of_next false (fun _ => rfl) fun s => (KeepsLaws.startSlot s).trans (KeepsLaws.settle _ _)
  · exact Instr.keepsAll_of_exec fun _ _ => KeepsLaws.replyComplete
  · exact Instr.keepsAll_of_next false (fun _ => rfl) fun s => KeepsLaws.endReception s fun x hx => KeepsLaws.judgeMiss hx _
  · exact Instr.keepsAll_of_exec fun _ _ => KeepsLaws.shortPress
  · exact Instr.keepsAll_of_exec fun _ _ => KeepsLaws.longPress
  · exact Instr.keepsAll_of_next true (fun _ => rfl) KeepsLaws.shortPeriod
  · exact Instr.keepsAll_of_next true (fun _ => rfl) (KeepsLaws.samplePeriodComplete clocks)
  · exact Instr.keepsAll_of_next true (fun _ => rfl) KeepsLaws.runFrameWork
  · exact Instr.keepsAll_of_next true (fun _ => rfl) KeepsLaws.runMix
  · exact Instr.keepsAll_of_next false (fun _ => rfl) (KeepsLaws.completeShift q)

end Sys2Proof.Machine
end

section
/-! Nothing is left to recompute after a command (R56, R58, R68, R160; log 7). -/

namespace Sys2Proof.Machine

/-- A change of the lanes or of the store's record alone leaves a settled state settled. -/
theorem State.settled_of_rooms {s t : State} (h : s.settled) (pods : t.pods = s.pods) (ports : t.ports = s.ports)
    (privacy : t.privacy = s.privacy) (talkers : t.talkers = s.talkers) : t.settled := by
  have hpod : ∀ p, t.pod p = s.pod p := fun p => by simp only [State.pod, pods]
  exact State.settled_congr h (fun p => by rw [hpod]) ports privacy (fun p => by simp only [State.talks, talkers])
    fun p => State.gateOf_congr p talkers

theorem State.settled_modPort {s : State} (h : s.settled) (q : PortId) {f : Port → Port}
    (ha : (f (s.port q)).attention = (s.port q).attention) (hw : (f (s.port q)).wantsAttention = (s.port q).wantsAttention) :
    (s.modPort q f).settled := by
  refine State.settled_mapPorts h _ fun k => ?_
  obtain ⟨-, hports⟩ := (State.settled_iff s).1 h
  split
  · rename_i hk; subst hk; rw [ha, hw]; exact hports _
  · exact hports k

theorem takeTurn_settled {s : State} (h : s.settled) (row : RequestRow) (request : Request) (q : PortId) :
    (takeTurn row request q s).settled := by
  unfold takeTurn
  split
  · exact h
  · split
    · exact State.settled_settle _
    · exact h

theorem takeHead_settled {s : State} (h : s.settled) (q : PortId) : (takeHead q s).settled := by
  unfold takeHead
  split
  · exact h
  · exact takeTurn_settled h _ _ q

theorem completeShift_settled {s : State} (h : s.settled) (q : PortId) : (completeShift q s).settled := by
  unfold completeShift
  split
  · exact h
  · split
    · exact h
    · dsimp only
      split
      · exact takeHead_settled (State.settled_settle _) q
      · exact State.settled_settle _

theorem Port.attention_deselect (port : Port) (t : Transaction) (clocked : List Bool) :
    (port.deselect t clocked).attention = port.attention := by
  unfold Port.deselect Port.receive
  dsimp only
  split
  · rfl
  · split <;> rfl

theorem Port.wantsAttention_deselect (port : Port) (t : Transaction) (clocked : List Bool) :
    (port.deselect t clocked).wantsAttention = port.wantsAttention := by
  unfold Port.deselect Port.receive
  dsimp only
  split
  · rfl
  · split <;> rfl

theorem endReception_settled {s : State} (h : s.settled) (judge : PodId → State → State) : (endReception judge s).settled := by
  unfold endReception
  split
  · exact h
  · split
    · exact h
    · exact State.settled_settle _

theorem runMix_settled {s : State} (h : s.settled) : (runMix s).settled := by
  cases hw : s.mixInput with
  | none => simpa [runMix, hw] using h
  | some w => rw [runMix_of_worked hw]; exact State.settled_settle _

theorem runFrameWork_settled {s : State} (h : s.settled) : (runFrameWork s).settled := by
  unfold runFrameWork
  split
  · exact h
  · exact State.settled_settle _

theorem execSelection_settled {q : PortId} {s t : State} (h : s.settled) (ht : execSelection q s = .next t) : t.settled := by
  unfold execSelection at ht
  split at ht
  · cases ht; exact h
  · cases ht; exact State.settled_modPort h q rfl rfl

theorem execDeselection_settled {q : PortId} {clocked : List Bool} {s t : State} (h : s.settled)
    (ht : execDeselection q clocked s = .next t) : t.settled := by
  unfold execDeselection at ht
  split at ht
  · cases ht; exact h
  · cases ht
    rename_i x _
    refine State.settled_modPort ?_ q (Port.attention_deselect _ x _) (Port.wantsAttention_deselect _ x _)
    split
    · exact completeShift_settled h q
    · exact h

theorem execStoreCompletion_settled {s t : State} (h : s.settled) (ht : execStoreCompletion s = .next t) : t.settled := by
  unfold execStoreCompletion at ht
  split at ht
  · cases ht; exact State.settled_of_rooms h rfl rfl rfl rfl
  · split at ht
    · cases ht; exact State.settled_settle _
    · cases ht; exact State.settled_settle _
    · cases ht; exact h
    · cases ht; exact h

theorem execEraseBlockCompletion_settled {s t : State} (h : s.settled) (ht : execEraseBlockCompletion s = .next t) : t.settled := by
  unfold execEraseBlockCompletion at ht
  split at ht
  · cases ht; exact State.settled_of_rooms h rfl rfl rfl rfl
  · split at ht
    · dsimp only at ht
      split at ht
      · cases ht; exact State.settled_of_rooms h rfl rfl rfl rfl
      · cases ht; exact State.settled_settle _
    · cases ht; exact h
    · cases ht; exact h
    · cases ht; exact h

theorem execOperationTimeout_settled {s t : State} (h : s.settled) (ht : execOperationTimeout s = .next t) : t.settled := by
  unfold execOperationTimeout at ht
  split at ht
  · cases ht; exact h
  · cases ht; exact State.settled_settle _

theorem execPresenceTimerExpiry_settled {q : PortId} {s t : State} (h : s.settled) (ht : execPresenceTimerExpiry q s = .next t) :
    t.settled := by
  unfold execPresenceTimerExpiry at ht
  split at ht
  · cases ht; exact State.settled_settle _
  · cases ht; exact State.settled_settle _
  · cases ht; exact h
  · cases ht; exact h

theorem execShortPress_settled {a : Nat} {s t : State} (h : s.settled) (ht : execShortPress a s = .next t) : t.settled := by
  unfold execShortPress at ht
  split at ht
  · cases ht; exact h
  · cases ht
    split
    · exact State.settled_settle _
    · exact h

theorem execLongPress_settled {a : Nat} {s t : State} (h : s.settled) (ht : execLongPress a s = .next t) : t.settled := by
  unfold execLongPress at ht
  split at ht
  · cases ht; exact h
  · cases ht
    split
    · exact State.settled_settle _
    · exact h

theorem execReplyComplete_settled {a b c d e : List Bool} {s t : State} (h : s.settled)
    (ht : execReplyComplete a b c d e s = .next t) : t.settled := by
  unfold execReplyComplete at ht
  split at ht
  · cases ht; exact endReception_settled h _
  · cases ht; exact h

theorem samplePeriod_settled {s : State} (h : s.settled) (clocks : List LaneClock) : (samplePeriod clocks s).settled := by
  rw [samplePeriod_eq]
  split
  · exact State.settled_of_rooms h rfl rfl rfl rfl
  · rw [frameBoundary_eq]; exact State.settled_settle _

theorem execWatchdogExpiry_settled {s t : State} (h : s.settled) (ht : execWatchdogExpiry s = .next t) : t.settled := by
  unfold execWatchdogExpiry at ht
  split at ht
  · cases ht; exact State.settled_settle _
  · cases ht; exact h

/-- A command that leaves what follows from the rest of the state standing. -/
def Instr.Settles (c : Instr) : Prop := ∀ s t : State, s.settled → exec c s = .next t → t.settled

theorem Instr.settles_of_next {c : Instr} {next : State → State} (h : ∀ s, exec c s = .next (next s))
    (settled : ∀ s, s.settled → (next s).settled) : Instr.Settles c := fun s t hs ht => by
  obtain rfl : next s = t := Host.Outcome.next.inj ((h s).symm.trans ht)
  exact settled s hs

theorem Instr.settles (c : Instr) : Instr.Settles c := by
  refine Instr.byRows (fun row q => Instr.settles_of_next (exec_command row q) fun _ h => takeTurn_settled h row _ q)
    (fun b => ?_) ?_ (fun q => ?_) (fun q clocked => ?_) ?_ ?_ ?_ (fun q => ?_) ?_ (fun a b c d e => ?_) ?_ (fun a => ?_) (fun a => ?_) ?_
    (fun clocks => ?_) ?_ ?_ ?_ (fun q => ?_) c
  · exact Instr.settles_of_next (fun _ => rfl) fun _ _ => State.settled_settle _
  · exact Instr.settles_of_next (fun _ => rfl) fun _ _ => State.settled_settle _
  · exact fun _ _ => execSelection_settled
  · exact fun _ _ => execDeselection_settled
  · exact fun _ _ => execStoreCompletion_settled
  · exact fun _ _ => execEraseBlockCompletion_settled
  · exact fun _ _ => execOperationTimeout_settled
  · exact fun _ _ => execPresenceTimerExpiry_settled
  · exact Instr.settles_of_next (fun _ => rfl) fun _ _ => State.settled_settle _
  · exact fun _ _ => execReplyComplete_settled
  · exact Instr.settles_of_next (fun _ => rfl) fun _ h => endReception_settled h _
  · exact fun _ _ => execShortPress_settled
  · exact fun _ _ => execLongPress_settled
  · exact Instr.settles_of_next (fun _ => rfl) fun _ h => State.settled_of_rooms h rfl rfl rfl rfl
  · refine Instr.settles_of_next (fun _ => rfl) fun s h => ?_
    split
    · exact samplePeriod_settled h clocks
    · exact h
  · exact fun _ _ => execWatchdogExpiry_settled
  · exact Instr.settles_of_next (fun _ => rfl) fun _ h => runFrameWork_settled h
  · exact Instr.settles_of_next (fun _ => rfl) fun _ h => runMix_settled h
  · exact Instr.settles_of_next (fun _ => rfl) fun _ h => completeShift_settled h q

end Sys2Proof.Machine
end

section
/-! The laws after every step. -/

namespace Sys2Proof.Machine

theorem exec_of_isReset {c : Instr} (hc : Instr.isReset c = true) (s : State) : ∃ b, (c ≠ .resetN → c = .powerUp b) ∧
    (c = .resetN → b = s.installer) ∧ exec c s = .next (s.blocksReset b).resetLoad.settle := by
  cases c with
  | powerUp b => exact ⟨b, fun _ => rfl, fun h => (by cases h), rfl⟩
  | resetN => exact ⟨s.installer, fun h => absurd rfl h, fun _ => rfl, rfl⟩
  | _ => cases hc

/-- What a command leaves: the laws kept, or those that a reset's start meets kept (R1, R172, R179). -/
theorem exec_keeps {c : Instr} {s t : State} (h : exec c s = .next t) :
    (∃ frames, KeepsLaws frames s t) ∨
    ∃ b, t = (s.blocksReset b).resetLoad.settle ∧ ((∀ install, c ≠ .powerUp install) → b = s.installer) := by
  cases hc : Instr.isReset c with
  | false => exact .inl (Instr.keepsAll_of_not_reset c hc s t h)
  | true =>
    obtain ⟨b, hup, hreset, hexec⟩ := exec_of_isReset hc s
    refine .inr ⟨b, (Host.Outcome.next.inj (hexec.symm.trans h)).symm, fun hno => hreset ?_⟩
    by_contra hne
    exact hno b (hup hne)

/-- The state with these commands waiting (log 1). -/
def State.queued (s : State) (rest : List Instr) : State := { s with pending := rest }

/-- The commands that wait are not of the part: the laws do not speak of them. -/
theorem State.lawful.queued {s : State} (h : s.lawful) (rest : List Instr) : (s.queued rest).lawful :=
  ⟨h.tables, h.link, h.ports, h.talkers, h.legs, h.gains, h.lanes, h.start, h.store, h.faults⟩

theorem State.settled_queued {s : State} (h : s.settled) (rest : List Instr) : (s.queued rest).settled :=
  State.settled_of_rooms h rfl rfl rfl rfl

/-- What a step leaves comes from the front command, or the part idles. -/
theorem step_cases {s t : State} (h : step s = .next t) : t = s ∨
    ∃ c rest, s.pending = c :: rest ∧ exec c (s.queued rest) = .next t := by
  unfold step at h
  split at h
  · exact .inl (Host.Outcome.next.inj h).symm
  · rename_i c rest hp
    exact .inr ⟨c, rest, hp, h⟩

/-- A claim of the laws survives a step when every kept change and every reset gives it. -/
theorem step_induction {P : State → Prop} {s t : State} (hstep : step s = .next t) (idle : P s)
    (keeps : ∀ (rest : List Instr) frames, KeepsLaws frames (s.queued rest) t → P t)
    (reset : ∀ (rest : List Instr) b, t = ((s.queued rest).blocksReset b).resetLoad.settle → P t) : P t := by
  rcases step_cases hstep with rfl | ⟨c, rest, -, hexec⟩
  · exact idle
  · rcases exec_keeps hexec with ⟨frames, hk⟩ | ⟨b, ht, -⟩
    · exact keeps rest frames hk
    · exact reset rest b ht

theorem State.lawful_step {s t : State} (h : s.lawful) (hstep : step s = .next t) : t.lawful :=
  step_induction hstep h (fun _ _ hk => hk.lawful (h.queued _)) fun rest b ht => by
    subst ht
    exact (KeepsLaws.resetLoad _ b).lawful (State.lawful_blocksReset (h.queued rest).store b)

theorem State.settled_step {s t : State} (h : s.settled) (hstep : step s = .next t) : t.settled := by
  rcases step_cases hstep with rfl | ⟨c, rest, -, hexec⟩
  · exact h
  · exact Instr.settles c _ t (State.settled_queued h rest) hexec

/-! ### Patterns, gates and attention of a settled state (R55, R58, R68, R160) -/

theorem KeepsLaws.noRise {frames : Bool} {s t : State} (h : KeepsLaws frames s t) (ht : t.privacy.isSome = true) (p : PodId) :
    (t.pod p).muteEnv.now ≤ (s.pod p).muteEnv.now := by
  cases frames with
  | false => exact h.calm rfl p
  | true => exact (h.privacy rfl).2 ht p

/-- While privacy is active no mute envelope rises (law 7). -/
theorem noRise_step {s t : State} (hstep : step s = .next t) (ht : t.privacy.isSome = true) (p : PodId) :
    (t.pod p).muteEnv.now ≤ (s.pod p).muteEnv.now :=
  step_induction (P := fun t => t.privacy.isSome = true → (t.pod p).muteEnv.now ≤ (s.pod p).muteEnv.now) hstep (fun _ => le_rfl)
    (fun _ _ hk ht => hk.noRise ht p) (fun rest b h _ => by
      subst h
      have hzero := (KeepsLaws.resetLoad (s.queued rest) b).calm rfl p
      rw [State.pod_blocksReset] at hzero
      exact hzero.trans (Nat.zero_le _)) ht

theorem HoldSet.any_eq_false_iff (h : HoldSet) : h.any = false ↔ h = HoldSet.empty := by
  obtain ⟨a, b, c, d⟩ := h
  simp [HoldSet.any, HoldSet.empty, and_assoc]

/-- The pattern that R55 selects. -/
theorem State.patternOf_spec (s : State) (p : PodId) : s.patternOf p =
    if (s.pod p).listed = false then .dark
    else if 0 < (s.pod p).muteEnv.now then (if ∃ e ∈ s.talkers, e.pod = p then .talking else .live)
    else if (s.pod p).holds = HoldSet.empty ∧ s.privacy = none then .live
    else if s.privacy ≠ none then .privateRoom
    else if (s.pod p).mutedTalk = true then .mutedSpeaking
    else if (s.pod p).holds = ⟨true, false, false, false⟩ then .mutedSelf
    else .mutedHeld := by
  have htalks : s.talks p = true ↔ ∃ e ∈ s.talkers, e.pod = p := by simp [State.talks]
  have hholds := HoldSet.any_eq_false_iff (s.pod p).holds
  unfold State.patternOf selectPattern State.muted
  simp only [← htalks, ← hholds]
  cases (s.pod p).listed with
  | false => rfl
  | true => cases s.privacy <;> cases (s.pod p).holds.any <;> simp

/-- A pattern of the muted family stands for a resolved-muted channel whose mute envelope is at 0 (law 6). -/
theorem State.patternOf_muted_iff {s : State} {p : PodId} (h : (s.pod p).listed = true) :
    s.patternOf p ∈ [Pattern.mutedSelf, .mutedHeld, .mutedSpeaking, .privateRoom] ↔
      ((s.pod p).holds ≠ HoldSet.empty ∨ s.privacy.isSome = true) ∧ (s.pod p).muteEnv.now = 0 := by
  have hpositive : 0 < (s.pod p).muteEnv.now ↔ ¬ (s.pod p).muteEnv.now = 0 := Nat.pos_iff_ne_zero
  rw [State.patternOf_spec, if_neg (by simp [h])]
  split
  · rename_i hm
    have hne := hpositive.1 hm
    split <;> simp [hne]
  · rename_i hm
    have hzero : (s.pod p).muteEnv.now = 0 := by omega
    split
    · rename_i hlive; simp [hlive]
    · rename_i hmuted
      have hheld : (s.pod p).holds ≠ HoldSet.empty ∨ s.privacy.isSome = true := by
        cases hp : s.privacy <;> simp_all
      split
      · simp [hheld, hzero]
      split
      · simp [hheld, hzero]
      split <;> simp [hheld, hzero]

/-- The gate state is that of the channel's entry (R68). -/
theorem State.gateOf_eq_elim (s : State) (p : PodId) :
    s.gateOf p = ((s.talkers.find? fun e => decide (e.pod = p)).map fun e => e.state.gate).getD .closed := by
  have hpick : (fun e : Talker => e.pod == p) = fun e => decide (e.pod = p) := funext fun e => rfl
  unfold State.gateOf
  rw [hpick]
  cases s.talkers.find? fun e => decide (e.pod = p) <;> rfl

end Sys2Proof.Machine

open Sys2Proof Sys2Proof.Machine

/-- Settles O59: the laws from one step of each command, and what is recomputed from the end of each event. -/
theorem everyStepKeepsTheLaws : Obligations.EveryStepKeepsTheLaws := by
  intro s t h hstep
  exact (State.lawful_step h.lawful hstep).sound (State.settled_step h.settled hstep)

/-- Settles O57: a part of O59. -/
theorem outputFramesKept : Obligations.OutputFramesKept := by
  intro s t h hstep
  have ht := State.lawful_step h.lawful hstep
  exact ⟨ht.lanes, ht.start⟩

/-- Settles O56: a part of O59. -/
theorem linkHoldsAndFaultsKept : Obligations.LinkHoldsAndFaultsKept := by
  intro s t h hstep
  have ht := State.lawful_step h.lawful hstep
  exact ⟨ht.link, ht.faults⟩

/-- Settles O55: a part of O59. -/
theorem talkerListKept : Obligations.TalkerListKept := by
  intro s t h hstep
  exact (State.lawful_step h.lawful hstep).talkers

/-- Settles O52: every event ends with nothing left to recompute, and R55's selection is read off the settled state. -/
theorem indicatorsFollowTheMute : Obligations.IndicatorsFollowTheMute := by
  intro s t hs hstep
  have ht := State.settled_step hs hstep
  obtain ⟨hpods, hports⟩ := (State.settled_iff t).1 ht
  refine ⟨ht, fun p => ?_, fun p => ?_, fun p => (hpods p).2.1, fun q => ?_, fun p hl => ?_, noRise_step hstep⟩
  · rw [(hpods p).2.2, State.patternOf_spec]
  · rw [(hpods p).1, State.gateOf_eq_elim]
    cases t.talkers.find? fun e => decide (e.pod = p) with
    | none => rfl
    | some e => obtain ⟨_, state, _, _⟩ := e; cases state <;> rfl
  · rw [hports q]; simp [Port.wantsAttention]
  · rw [(hpods p).2.2, State.patternOf_muted_iff hl]

/-- Settles O54: the queues' and the roles' law needs no other. -/
theorem portsAndQueuesKept : Obligations.PortsAndQueuesKept := by
  intro s t h hstep
  exact step_induction hstep h (fun _ _ hk => hk.ports h) fun rest b ht => by
    subst ht
    exact (KeepsLaws.resetLoad _ b).ports (State.portsSound_blocksReset _ b)

/-- Settles O53: the tables, the gains and the CLOSED legs need no more than their own laws. -/
theorem tablesGainsAndClosedLegsKept : Obligations.TablesGainsAndClosedLegsKept := by
  intro s t htables hlegs hstep
  refine step_induction (P := fun t => t.tablesSound ∧ t.legsSound ∧ (s.gainsSound → t.gainsSound)) hstep
    ⟨htables, hlegs, id⟩ (fun _ _ hk => ⟨hk.tables htables, hk.legs hlegs, hk.gains htables⟩)
    fun rest b ht => ?_
  have hreset := KeepsLaws.resetLoad (s.queued rest) b
  subst ht
  exact ⟨hreset.tables (State.tablesSound_blocksReset _ b), hreset.legs (State.legsSound_blocksReset _ b), fun _ =>
    hreset.gains (State.tablesSound_blocksReset _ b) (State.gainsSound_blocksReset _ b)⟩

/-- Settles O58: a reset keeps the commit map as the operation it cuts short leaves it. -/
theorem storeAndCommitMapKept : Obligations.StoreAndCommitMapKept := by
  intro s t hstore hstep
  rcases step_cases hstep with rfl | ⟨c, rest, hpending, hexec⟩
  · exact ⟨hstore, fun _ _ => id, fun _ => rfl⟩
  rcases exec_keeps hexec with ⟨frames, hk⟩ | ⟨b, rfl, hinstaller⟩
  · exact ⟨hk.store hstore, hk.commits hstore, fun _ => hk.installer⟩
  · have hreset := KeepsLaws.resetLoad (s.queued rest) b
    refine ⟨hreset.store ⟨State.wf_tornStore (s := s.queued rest) hstore, trivial⟩, fun _ x hx => ?_, fun hno => ?_⟩
    · rw [State.commitMap_resetLoad]
      exact State.commitMap_blocksReset_mono _ b hx
    · refine hreset.installer.trans (hinstaller fun install hc => hno install ?_)
      rw [hpending, hc]
      rfl
end

section
/-! Steps and the roundings of the mix engine. -/

namespace Sys2Proof.Machine

/-! ### The roundings (R89, R90) -/

theorem shiftNearest_neg (v : Int) (n : Nat) : shiftNearest (-v) n = -shiftNearest v n := by
  simp [shiftNearest, Int.sign_neg]

theorem shiftNearest_natCast (a : Nat) {n : Nat} (hn : 1 ≤ n) : shiftNearest a n = ((a + 2 ^ (n - 1)) / 2 ^ n : Nat) := by
  rcases Nat.eq_zero_or_pos a with rfl | ha
  · have hhalf : 2 ^ (n - 1) / 2 ^ n = 0 := Nat.div_eq_of_lt (Nat.pow_lt_pow_right (by decide) (by omega))
    simp [shiftNearest, hhalf]
  · rw [shiftNearest, Int.sign_eq_one_of_pos (by omega), one_mul, Int.natAbs_natCast]

/-- The shifted value is nearest, and a tie goes away from zero (R90). -/
theorem shiftNearest_natCast_near (a : Nat) {n : Nat} (hn : 1 ≤ n) : 2 * (shiftNearest a n * 2 ^ n - a).natAbs ≤ 2 ^ n ∧
    (2 * (shiftNearest a n * 2 ^ n - a).natAbs = 2 ^ n → a < (shiftNearest a n).natAbs * 2 ^ n) := by
  rw [shiftNearest_natCast a hn]
  obtain ⟨half, hhalf⟩ : ∃ half, 2 ^ (n - 1) = half := ⟨_, rfl⟩
  have hwhole : 2 ^ n = half + half := by
    rw [← hhalf, ← two_mul, ← pow_succ', Nat.sub_add_cancel hn]
  have hpos : 0 < half := hhalf ▸ Nat.two_pow_pos _
  have hint : (2 : Int) ^ n = ((half + half : Nat) : Int) := by exact_mod_cast hwhole
  rw [hint, hhalf, hwhole, Int.natAbs_natCast]
  have hlow := Nat.div_mul_le_self (a + half) (half + half)
  have hhigh := Nat.lt_div_mul_add (a := a + half) (b := half + half) (by omega)
  rw [← Int.natCast_mul]
  generalize (a + half) / (half + half) * (half + half) = m at *
  omega

theorem shiftNearest_near (v : Int) {n : Nat} (hn : 1 ≤ n) : 2 * (shiftNearest v n * 2 ^ n - v).natAbs ≤ 2 ^ n ∧
    (2 * (shiftNearest v n * 2 ^ n - v).natAbs = 2 ^ n → v.natAbs < (shiftNearest v n).natAbs * 2 ^ n) := by
  have hnear := shiftNearest_natCast_near v.natAbs hn
  rcases v.natAbs_eq with hv | hv
  · rwa [← hv] at hnear
  · have hneg : shiftNearest v n = -shiftNearest v.natAbs n := by conv_lhs => rw [hv, shiftNearest_neg]
    have hdiff : shiftNearest v n * 2 ^ n - v = -(shiftNearest v.natAbs n * 2 ^ n - v.natAbs) := by
      rw [hneg, neg_mul]; omega
    rw [hdiff, Int.natAbs_neg, hneg, Int.natAbs_neg]
    exact hnear

theorem halfUp_unity (a : Nat) : halfUp a 65536 = a := by unfold halfUp; omega

theorem halfUp_zero (a : Nat) : halfUp a 0 = 0 := by unfold halfUp; omega

end Sys2Proof.Machine

open Sys2Proof Sys2Proof.Machine

/-- Settles O1: both halves are the two equations of `step`. -/
theorem stepRunsTheFrontCommand : Obligations.StepRunsTheFrontCommand := fun _ _ _ => ⟨rfl, rfl⟩

/-- Settles O49: the half-up product rounds down after a half is added, and the nearest shift is judged by a value's size. -/
theorem roundingsOfTheMixEngine : Obligations.RoundingsOfTheMixEngine := by
  refine ⟨fun a b => ⟨rfl, halfUp_unity a, halfUp_zero a, halfUp_le⟩, by decide, fun v n hn => ?_, by decide⟩
  exact ⟨shiftNearest_neg v n, shiftNearest_near v hn⟩
end

section
/-! Sample periods, frame boundaries and breaks of the audio lanes. -/

namespace Sys2Proof.Machine

/-! ### Frame events take no notice of the wires (R86, R87) -/

section
variable (s : State) (levels : List LaneLevels) (p : PodId) (m : LegId)

@[simp] theorem State.patternOf_shownSlots : (s.shownSlots levels).patternOf p = s.patternOf p := rfl
@[simp] theorem State.gateOf_shownSlots : (s.shownSlots levels).gateOf p = s.gateOf p := rfl

theorem State.settle_shownSlots : (s.shownSlots levels).settle = s.settle.shownSlots levels := by
  simp only [State.settle, State.mapPods, State.mapPorts, State.patternOf_shownSlots, State.gateOf_shownSlots]
  rfl

theorem State.stepGains_shownSlots : (s.shownSlots levels).stepGains = s.stepGains.shownSlots levels := rfl

theorem State.mixHanded_shownSlots (waiting : Option (List OutputSample)) :
    (s.shownSlots levels).mixHanded waiting = (s.mixHanded waiting).shownSlots levels := rfl

theorem State.outputFrame_shownSlots (w : WorkFrame) : (s.shownSlots levels).outputFrame w = s.outputFrame w := rfl

theorem State.raiseIf_shownSlots (b : Bool) (c : Category) :
    (s.shownSlots levels).raiseIf b c = (s.raiseIf b c).shownSlots levels := by cases b <;> rfl

theorem State.mapPods_shownSlots (f : PodId → Pod → Pod) : (s.shownSlots levels).mapPods f = (s.mapPods f).shownSlots levels := rfl

theorem runMix_shownSlots : runMix (s.shownSlots levels) = (runMix s).shownSlots levels := by
  cases hw : s.mixInput with
  | none =>
    have hidle : runMix s = s := by rw [runMix, hw]
    have hshown : (s.shownSlots levels).mixInput = none := hw
    rw [hidle, runMix, hshown]
  | some w =>
    have hshown : (s.shownSlots levels).mixInput = some w := hw
    have hwaiting : (s.shownSlots levels).waitingAfter w = s.waitingAfter w := by
      unfold State.waitingAfter
      rw [State.stepGains_shownSlots, State.outputFrame_shownSlots]
      rfl
    rw [runMix_of_worked hw, runMix_of_worked hshown, hwaiting, State.stepGains_shownSlots, State.mixHanded_shownSlots,
      State.settle_shownSlots]

theorem frameWorkOn_shownSlots (w : WorkFrame) : frameWorkOn w (s.shownSlots levels) = (frameWorkOn w s).shownSlots levels := by
  have htalkers : (frameWorkOn w (s.shownSlots levels)).talkers = (frameWorkOn w s).talkers := by
    rw [State.talkers_frameWorkOn, State.talkers_frameWorkOn]; rfl
  have hcounted : ∀ l, (s.shownSlots levels).counted l = (s.counted l).shownSlots levels := fun _ => rfl
  have hworked : ∀ p, (s.shownSlots levels).workedPod w p = s.workedPod w p := fun _ => rfl
  rw [frameWorkOn_eq, frameWorkOn_eq w s, htalkers, hcounted]
  simp only [hworked, State.mapPods_shownSlots, State.raiseIf_shownSlots]
  rfl

theorem runFrameWork_shownSlots : runFrameWork (s.shownSlots levels) = (runFrameWork s).shownSlots levels := by
  cases hw : s.gateInput with
  | none =>
    have hidle : runFrameWork s = s := by rw [runFrameWork, hw]
    have hshown : (s.shownSlots levels).gateInput = none := hw
    rw [hidle, runFrameWork, hshown]
  | some w =>
    have hshown : (s.shownSlots levels).gateInput = some w := hw
    simp only [runFrameWork, hw, hshown, frameWorkOn_shownSlots]
    rw [← State.settle_shownSlots]
    rfl

theorem overdueFrames_shownSlots : overdueFrames (s.shownSlots levels) = (overdueFrames s).shownSlots levels := by
  simp only [overdueFrames, runMix_shownSlots, runFrameWork_shownSlots]

end

/-- With no frame under way there is no frame event to come. -/
theorem overdueFrames_of_idle {s : State} (hgate : s.gateInput = none) (hmix : s.mixInput = none) : overdueFrames s = s := by
  have hm : runMix s = s := by rw [runMix, hmix]
  have hf : runFrameWork s = s := by rw [runFrameWork, hgate]
  rw [overdueFrames, hm, hf, hm]

/-- The frame events that have been taken are those still to come (log 11). -/
theorem FramesTaken.eq_overdueFrames {s u : State} (h : FramesTaken s u) : u = overdueFrames s := by
  obtain ⟨s1, s2, h1, h2, h3⟩ := h
  obtain rfl : runMix s = s1 := Host.Outcome.next.inj h1
  obtain rfl : runFrameWork (runMix s) = s2 := Host.Outcome.next.inj h2
  exact (Host.Outcome.next.inj h3).symm

/-! ### The end of an event that leaves the ports to their notices (R158, R160) -/

theorem State.noticed_eq (s : State) (cs : CategorySet) : s.noticed cs = { s with ports := (s.noticed cs).ports } := by
  simp only [State.noticed, State.mapPorts]

/-- The ports of a settled state are refreshed already (R160). -/
theorem State.ports_settle {s u : State} (h : s.settled) (hu : u.ports = s.ports) : u.settle.ports = s.ports := by
  refine State.ports_ext fun q => ?_
  have hport : u.port q = s.port q := by simp only [State.port, hu]
  have hrefreshed : u.settle.port q = (s.port q).refreshed := by rw [State.port_settle, hport]; rfl
  rw [hrefreshed, Port.refreshed, ← ((State.settled_iff s).1 h).2 q]

theorem State.settle_raise_raiseIf_ports {s u : State} (h : s.settled) (hu : u.ports = s.ports) (b : Bool) (c d : Category) :
    ((u.raiseIf b c).raise d).settle.ports = (s.noticed (d.bit ||| onlyIf b c)).ports := by
  rw [State.settle_raise, State.settle_raiseIf, State.noticed_noticed]
  exact State.ports_noticed_congr _ (State.ports_settle h hu)

/-! ### Breaks of the lanes (R112, R114) -/

theorem State.levelsFor_broken (s : State) (h : s.underway.length < 256) : ∃ n, n < 256 ∧
    carriesIndex (s.levelsFor s.clocksArrived) s.underway s.inProgress s.assembly.length n := by
  obtain ⟨hpassed, hfew⟩ := s.clocksArrived_bounds h
  exact ⟨s.clocksArrived, hfew, s.levelsFor_carriesIndex _ hpassed (Nat.le_of_lt h)⟩

/-- What the running out of the watchdog leaves, with no frame event to come (R114). -/
def State.watchdogOut (s : State) : State :=
  (breakOff s).laneStopped (s.levelsFor s.clocksArrived) (s.audioClock.report true)

/-- A settled event whose one notice is of a condition (R158, R160). -/
theorem State.settle_raiseIf_eq {s u : State} (hu : u.settled) (hports : u.ports = s.ports) (b : Bool) (c : Category) :
    (u.raiseIf b c).settle = { u with ports := (s.noticed (onlyIf b c)).ports } := by
  rw [State.settle_raiseIf, hu, State.noticed_eq, State.ports_noticed_congr _ hports]

theorem execWatchdogExpiry_idle {s : State} (hs : s.settled) (hw : s.watchdog = true) (hgate : s.gateInput = none)
    (hmix : s.mixInput = none) : execWatchdogExpiry s =
      .next { s.watchdogOut with ports := (s.noticed (onlyIf (!s.audioClock.latch) .faults)).ports } := by
  have hout : s.watchdogOut.settled := State.settled_of_rooms hs rfl rfl rfl rfl
  rw [execWatchdogExpiry_eq hw, overdueFrames_of_idle hgate hmix]
  exact congrArg Host.Outcome.next (State.settle_raiseIf_eq hout rfl _ _)

theorem execWatchdogExpiry_overdue {s : State} (hw : s.watchdog = true) :
    execWatchdogExpiry s = execWatchdogExpiry (overdueFrames s) := by
  rw [execWatchdogExpiry_eq hw, execWatchdogExpiry_eq (by simpa using hw),
    overdueFrames_of_idle (State.gateInput_overdueFrames s) (State.mixInput_overdueFrames s), State.levelsFor_overdueFrames,
    State.clocksArrived_overdueFrames]

/-! ### Sample periods (R109 to R111) -/

theorem execSamplePeriod_of_complete {clocks : List LaneClock} (h : 256 ≤ clocks.length) (s : State) :
    exec (.samplePeriodComplete clocks) s = .next (samplePeriod clocks s) := congrArg Host.Outcome.next (if_pos h)

theorem State.levelsFor_complete {s : State} {clocks : List LaneClock} (hunderway : s.underway.length < 256) (h : 256 ≤ clocks.length) :
    carriesIndex (s.levelsFor clocks.length) s.underway s.inProgress s.assembly.length clocks.length :=
  s.levelsFor_carriesIndex _ (by omega) (Nat.le_of_lt hunderway)

theorem samplePeriod_of_last {s : State} {clocks : List LaneClock} (h : s.assembly.length = 47) : samplePeriod clocks s =
    frameBoundary (s.assembly ++ [slotsClocked clocks]) (s.shownSlots (s.levelsFor clocks.length)) := by
  rw [samplePeriod_eq, if_neg]
  simp [h, frameLength]

/-- A boundary takes the frame events still to come first (log 11). -/
theorem samplePeriod_overdue {s : State} {clocks : List LaneClock} (h : s.assembly.length = 47) :
    samplePeriod clocks s = samplePeriod clocks (overdueFrames s) := by
  rw [samplePeriod_of_last h, samplePeriod_of_last (by simpa using h), frameBoundary_eq, frameBoundary_eq, overdueFrames_shownSlots,
    overdueFrames_shownSlots, overdueFrames_of_idle (State.gateInput_overdueFrames s) (State.mixInput_overdueFrames s),
    State.levelsFor_overdueFrames, State.assembly_overdueFrames]

/-- AL with its output frames moved on, its wires shown and a complete frame handed to GE (R110, R111). -/
def State.boundary (s : State) (levels : List LaneLevels) (frame : List LaneInput) : State :=
  ((s.shownSlots levels).movedOn).handFrame frame

theorem samplePeriod_idle {s : State} {clocks : List LaneClock} (h : s.assembly.length = 47) (hgate : s.gateInput = none)
    (hmix : s.mixInput = none) : samplePeriod clocks s =
      ((takeSync (s.shownSlots (s.levelsFor clocks.length)).movedOn).handFrame (s.assembly ++ [slotsClocked clocks])).settle := by
  rw [samplePeriod_of_last h, frameBoundary_eq, overdueFrames_shownSlots, overdueFrames_of_idle hgate hmix]

/-- Outside MISSING the lanes run on without a soft start (R113). -/
theorem takeSync_of_ne {s : State} (h : s.sync ≠ .missing) : takeSync s = { s with sync := .running } := by
  cases hs : s.sync with
  | running =>
    have hstays : takeSync s = s := by simp only [takeSync, hs]
    rw [hstays, ← hs]
  | starting => simp only [takeSync, hs]
  | missing => exact absurd hs h

/-! ### The return from MISSING (R115) -/

section
variable (s : State) (b : Bool) (c : Category)

theorem State.withTalkers_mapPorts (f : PortId → Port → Port) (l : List Talker) :
    (s.mapPorts f).withTalkers l = (s.withTalkers l).mapPorts f := rfl

theorem State.softened_raiseIf : (s.raiseIf b c).softened = s.softened.raiseIf b c := by
  simp only [State.raiseIf_eq_mapPorts, State.softened, State.mapPods_mapPorts, State.mapLegs_mapPorts, State.withTalkers_mapPorts]

theorem State.atUnity_raiseIf : (s.raiseIf b c).atUnity = s.atUnity.raiseIf b c := by cases b <;> rfl

theorem State.handFrame_raiseIf (frame : List LaneInput) : (s.raiseIf b c).handFrame frame = (s.handFrame frame).raiseIf b c := by
  cases b <;> rfl

end

/-- The return from MISSING before its notices (R115). -/
def State.returned (s : State) (frame : List LaneInput) : State :=
  ((s.laneStarted (s.audioClock.report false)).softened.atUnity).handFrame frame

theorem takeSync_handFrame_of_missing {s : State} (h : s.sync = .missing) (frame : List LaneInput) :
    (takeSync s).handFrame frame = ((s.returned frame).raiseIf (s.audioClock.reportNotice false) .faults).raise .talkers := by
  rw [takeSync_of_missing h, softStart_eq, State.softened_raiseIf, State.atUnity_raiseIf]
  exact (State.handFrame_raiseIf _ true _ frame).trans (congrArg (fun u => State.raise u .talkers) (State.handFrame_raiseIf _ _ _ frame))

section
variable (s : State) (frame : List LaneInput) (p : PodId) (m : LegId)

@[simp] theorem State.pod_handFrame : (s.handFrame frame).pod p = s.pod p := rfl
@[simp] theorem State.leg_handFrame : (s.handFrame frame).leg m = s.leg m := rfl
@[simp] theorem State.pod_laneStarted (clock : FaultRecord) : (s.laneStarted clock).pod p = s.pod p := rfl
@[simp] theorem State.leg_laneStarted (clock : FaultRecord) : (s.laneStarted clock).leg m = s.leg m := rfl

theorem State.returned_frame : s.returned frame = { s with
    pods := (s.returned frame).pods, legs := (s.returned frame).legs, talkers := [], nomGain := Ramp.flat unity, sync := .running
    watchdog := true, audioClock := s.audioClock.report false, gateInput := some ⟨frame, true⟩ } := by
  simp only [State.returned, State.handFrame, State.atUnity]
  rw [State.softened_frame]
  rfl

@[simp] theorem State.pod_returned : (s.returned frame).pod p = (s.pod p).softened := by simp [State.returned]
@[simp] theorem State.leg_returned : (s.returned frame).leg m = (s.leg m).zeroed := by simp [State.returned]

end

/-- Outside MISSING a boundary moves the frames on and no more (R110, R111, R113). -/
theorem boundary_of_ne {s : State} (hs : s.settled) (h : s.sync ≠ .missing) (frame : List LaneInput) :
    ((takeSync s).handFrame frame).settle = { s with sync := .running, gateInput := some ⟨frame, true⟩ } := by
  rw [takeSync_of_ne h]
  exact State.settled_of_rooms hs rfl rfl rfl rfl

/-- A pod record at the end of an event (R56, R58, R68). -/
theorem State.pod_settle_noticed (s : State) (cs : CategorySet) (p : PodId) :
    (s.settle.noticed cs).pod p = (s.pod p).following (s.settle.noticed cs) p := by
  simp [Pod.following]

theorem State.ports_returned (s : State) (frame : List LaneInput) : (s.returned frame).ports = s.ports := by
  rw [State.returned_frame]

/-- The end of an event that has left the ports of a settled state (R158, R160). -/
theorem State.settle_noticed_frame {s u : State} (hs : s.settled) (hports : u.ports = s.ports) (cs : CategorySet) :
    u.settle.noticed cs = { u with pods := (u.settle.noticed cs).pods, ports := (s.noticed cs).ports } := by
  rw [State.noticed_eq, State.ports_noticed_congr cs (State.ports_settle hs hports), State.settle_eq]

/-- A return from MISSING leaves what the soft start gives, with its notices and what follows (R115, R158). -/
theorem boundary_of_missing {s : State} (hs : s.settled) (h : s.sync = .missing) (frame : List LaneInput) :
    ∃ t, ((takeSync s).handFrame frame).settle = t ∧ (∀ p, t.pod p = (s.pod p).softened.following t p) ∧
      (∀ m, t.leg m = (s.leg m).zeroed) ∧ t = { s with
        pods := t.pods, legs := t.legs, talkers := [], nomGain := Ramp.flat unity, sync := .running
        watchdog := true, audioClock := s.audioClock.report false, gateInput := some ⟨frame, true⟩
        ports := (s.noticed (Category.talkers.bit |||
          onlyIf (s.audioClock.latch && s.audioClock.condition) .faults)).ports } := by
  have hends : ((takeSync s).handFrame frame).settle = (s.returned frame).settle.noticed
      (Category.talkers.bit ||| onlyIf (s.audioClock.latch && s.audioClock.condition) .faults) := by
    rw [takeSync_handFrame_of_missing h, State.settle_raise, State.settle_raiseIf, State.noticed_noticed]
    rfl
  have hframe := State.settle_noticed_frame hs (s.ports_returned frame)
    (Category.talkers.bit ||| onlyIf (s.audioClock.latch && s.audioClock.condition) .faults)
  refine ⟨_, hends, fun p => ?_, fun m => by simp, ?_⟩
  · rw [State.pod_settle_noticed, State.pod_returned]
  · generalize (s.returned frame).settle.noticed _ = t at hframe ⊢
    have hlegs : t.legs = (s.returned frame).legs := by rw [hframe]
    rw [hlegs]
    rw [State.returned_frame] at hframe
    exact hframe

end Sys2Proof.Machine

open Sys2Proof Sys2Proof.Machine

/-- Settles O42: the slots of a complete period join the assembly, and the wires carry the period's sample. -/
theorem samplePeriodFillsTheAssembly : Obligations.SamplePeriodFillsTheAssembly := by
  intro s clocks hunderway hclocks hassembly
  refine ⟨_, execSamplePeriod_of_complete hclocks s, slotsClocked clocks, slotsClocked_shiftedIn clocks hclocks, ?_⟩
  have hshort : (s.assembly ++ [slotsClocked clocks]).length < frameLength := by simpa [frameLength] using hassembly
  rw [samplePeriod_eq, if_pos hshort]
  exact ⟨State.levelsFor_complete hunderway hclocks, rfl⟩

/-- Settles O44: both breaks discard the lanes' frames; the watchdog's takes the frame events still to come first. -/
theorem lanesBreakOff : Obligations.LanesBreakOff := by
  intro s hunderway
  obtain ⟨n, hfew, hcarries⟩ := s.levelsFor_broken hunderway
  refine ⟨⟨_, rfl, n, hfew, hcarries, rfl⟩, fun hw u hu => ?_, fun hs hw hgate hmix => ?_⟩
  · obtain rfl := hu.eq_overdueFrames
    exact ⟨State.gateInput_overdueFrames s, State.mixInput_overdueFrames s, execWatchdogExpiry_overdue hw⟩
  · refine ⟨_, execWatchdogExpiry_idle hs hw hgate hmix, n, hfew, hcarries, ?_⟩
    simp only [State.watchdogOut, State.laneStopped, breakOff, hgate, hmix, Option.map_none]
    rfl

/-- Settles O43: the frame events still to come are taken, and then the frame is handed, outside MISSING as it is and from MISSING after the soft start. -/
theorem frameBoundaryHandsTheFrame : Obligations.FrameBoundaryHandsTheFrame := by
  intro s clocks hunderway hclocks hassembly
  refine ⟨fun u hu => ?_, fun hs hgate hmix => ?_⟩
  · obtain rfl := hu.eq_overdueFrames
    refine ⟨State.gateInput_overdueFrames s, State.mixInput_overdueFrames s, ?_⟩
    rw [execSamplePeriod_of_complete hclocks, execSamplePeriod_of_complete hclocks, samplePeriod_overdue hassembly]
  · have hcarries := State.levelsFor_complete hunderway hclocks
    rw [hassembly] at hcarries
    rw [execSamplePeriod_of_complete hclocks, samplePeriod_idle hassembly hgate hmix]
    have hin := slotsClocked_shiftedIn clocks hclocks
    generalize s.levelsFor clocks.length = levels at hcarries ⊢
    generalize slotsClocked clocks = lanes at hin ⊢
    by_cases hm : s.sync = .missing
    · have hmoved : (s.shownSlots levels).movedOn.settled := State.settled_of_rooms hs rfl rfl rfl rfl
      obtain ⟨t, ht, hpods, hlegs, hframe⟩ := boundary_of_missing hmoved hm (s.assembly ++ [lanes])
      have hout : t.lanesOut = levels := by rw [hframe]; rfl
      refine ⟨t, congrArg Host.Outcome.next ht, lanes, hin, by rw [hout]; exact hcarries, fun hne => absurd hm hne, fun _ =>
        ⟨hpods, hlegs, ?_⟩⟩
      rw [hout]
      exact hframe
    · have hmoved : (s.shownSlots levels).movedOn.settled := State.settled_of_rooms hs rfl rfl rfl rfl
      exact ⟨_, congrArg Host.Outcome.next (boundary_of_ne hmoved hm _), lanes, hin, hcarries, fun _ => rfl,
        fun h => absurd h hm⟩
end

section
/-! Transactions at a port, and the turns of every row (R147 to R152, R163). -/

namespace Sys2Proof.Machine

/-! ### Turns of any row (R151) -/

section
variable {s : State} {q : PortId} {f : RequestFrame} {rest : List RequestFrame} {row : RequestRow} {request : Request}

/-- The turn of a frame that is refused, from a port in any state (R163). -/
theorem AtTurn.takeTurn_error {x : Reason} (h : AtTurn s q f rest) (hrow : f.row = row)
    (ho : outcomeOf row request q f (s.headTaken q rest) = .error x) :
    takeTurn row request q s = s.answered q rest ⟨.refused x, f.code, []⟩ := by
  rw [takeTurn_head row request h.requests h.room hrow, ← State.headTaken, ho, State.answer, State.settle_answered, h.settled]

/-- The turn of a frame that is executed, from a port in any state. -/
theorem AtTurn.takeTurn_executed {t : State} {a : Answer} (h : AtTurn s q f rest) (hrow : f.row = row)
    (ho : outcomeOf row request q f (s.headTaken q rest) = .ok (a, t)) :
    takeTurn row request q s = (t.queueReply q ⟨a.status, f.code, a.payload⟩).settle := by
  rw [takeTurn_head row request h.requests h.room hrow, ← State.headTaken, ho]
  rfl

theorem AtTurn.exec_error {x : Reason} (h : AtTurn s q f rest)
    (ho : outcomeOf f.row (requestOf f.row) q f (s.headTaken q rest) = .error x) :
    exec (f.row.command q) s = .next (s.answered q rest ⟨.refused x, f.code, []⟩) := by
  rw [exec_command, h.takeTurn_error rfl ho]

end

theorem State.queues_headTaken (s : State) (q : PortId) (rest : List RequestFrame) :
    ((s.headTaken q rest).port q).requests = rest ∧ ((s.headTaken q rest).port q).replies = (s.port q).replies := by
  simp [State.headTaken]

/-- What the port of an executed request holds once its turn ends (R151, R160). -/
theorem State.queues_settle_queueReply {s t : State} {q : PortId} {rest : List RequestFrame} (hq : QueuesKept (s.headTaken q rest) t)
    (r : Reply) : ((t.queueReply q r).settle.port q).requests = rest ∧
      ((t.queueReply q r).settle.port q).replies = (s.port q).replies ++ [r] ∧
      ((t.queueReply q r).settle.port q).attention = true := by
  obtain ⟨hrequests, hreplies, -⟩ := hq q
  obtain ⟨hrest, hsame⟩ := s.queues_headTaken q rest
  simp [State.queueReply, hrequests, hreplies, hrest, hsame, Port.wantsAttention]

theorem Port.answered_queues (port : Port) (rest : List RequestFrame) (r : Reply) : (port.answered rest r).requests = rest ∧
    (port.answered rest r).replies = port.replies ++ [r] ∧ (port.answered rest r).attention = true := ⟨rfl, rfl, rfl⟩

theorem State.port_answered_self (s : State) (q : PortId) (rest : List RequestFrame) (r : Reply) :
    (s.answered q rest r).port q = (s.port q).answered rest r := by simp [State.answered]

/-! ### Executed requests are not refused (R152) -/

/-- An outcome that is executed answers DONE, CLAMPED or STARTED. -/
def Outcome.Answers (o : Outcome) : Prop := ∀ a t, o = .ok (a, t) → ∀ x, a.status ≠ .refused x

namespace Outcome.Answers

theorem refuse (x : Reason) : Outcome.Answers (Machine.refuse x) := fun _ _ h => by cases h

theorem done (payload : List Byte) (t : State) : Outcome.Answers (answerDone payload t) := fun _ _ h x hx => by cases h; cases hx

theorem applied (same : Bool) (payload : List Byte) (t : State) : Outcome.Answers (answerApplied same payload t) := fun a u h x hx => by
  cases h
  simp only [doneIf] at hx
  split at hx <;> cases hx

theorem ok {a : Answer} {t : State} (h : ∀ x, a.status ≠ .refused x) : Outcome.Answers (.ok (a, t)) := fun _ _ he => by
  cases he; exact h

theorem ensure {b : Bool} {x : Reason} {k : Outcome} (h : Outcome.Answers k) : Outcome.Answers (Machine.ensure b x k) := by
  cases b
  · exact refuse x
  · exact h

end Outcome.Answers

section
variable (q : PortId) (operands : List Byte) (s : State)

theorem answers_holdPods (f : HoldSet → Option Role → HoldSet) : Outcome.Answers (holdChecks q operands s (holdPods q operands s f)) :=
  .ensure (.ensure (.ensure (.applied _ _ _)))

theorem answers_holdLegs (f : LegHolds → Option Role → LegHolds) :
    Outcome.Answers (holdChecks q operands s (holdLegs q operands s f)) :=
  .ensure (.ensure (.ensure (.applied _ _ _)))

theorem answers_gainPod (roles : List Role) (bound : Nat) (set : Nat → Pod → Pod) :
    Outcome.Answers (gainChecks q operands s roles (gainPod operands s bound set)) := by
  refine .ensure (.ensure (.ensure ?_))
  unfold gainPod
  split
  · exact .refuse _
  · exact .applied _ _ _

theorem answers_rosterChecks {k : Outcome} (h : Outcome.Answers k) : Outcome.Answers (rosterChecks q operands s k) :=
  .ensure (.ensure (.ensure h))

theorem answers_legTransition (m : LegId) (target : LegState) : Outcome.Answers (legTransition m target s) := by
  unfold legTransition
  dsimp only
  split
  · exact .done _ _
  split
  · exact .refuse _
  · exact .done _ _

theorem answers_beginOp (op : StoreOp) (payload : List Byte) : Outcome.Answers (beginOp op payload s) :=
  .ok fun _ h => by cases h

end

/-- No row's executed request answers REFUSED (R152, R163). -/
theorem requestOf_answers (row : RequestRow) (q : PortId) (f : RequestFrame) (s : State) :
    Outcome.Answers (requestOf row q f s) := by
  cases row with
  | badFrame => exact .refuse _
  | unknown => exact .refuse _
  | join =>
    refine .ensure ?_
    split
    · exact .refuse _
    · exact .ensure (.ensure (.done _ _))
  | leave => exact .ensure (.done _ _)
  | pulse => exact .ensure (.ensure (.ensure (.done _ _)))
  | notices => exact .ensure (.ensure (.done _ _))
  | watch => exact .ensure (.ensure (.applied _ _ _))
  | ident => exact .ensure (.done _ _)
  | holdOnPods => exact answers_holdPods _ _ _ _
  | holdOnLegs => exact answers_holdLegs _ _ _ _
  | holdOff =>
    simp only [requestOf, requestHoldOff]
    split
    · exact answers_holdPods _ _ _ _
    · exact answers_holdLegs _ _ _ _
  | releaseAll => exact .ensure (.ensure (.applied _ _ _))
  | privacyOn => exact .ensure (.ensure (.done _ _))
  | privacyOff => exact .ensure (.ensure (.done _ _))
  | legState =>
    refine .ensure ?_
    split
    · exact .refuse _
    · refine .ensure ?_
      split
      · exact .refuse _
      · exact answers_legTransition _ _ _
  | gainTrim => exact answers_gainPod _ _ _ _ _ _
  | gainVolume => exact answers_gainPod _ _ _ _ _ _
  | gainLegGain =>
    refine .ensure (.ensure (.ensure ?_))
    dsimp only
    split
    · exact .applied _ _ _
    · exact .refuse _
  | tuneSet =>
    refine .ensure (.ensure ?_)
    dsimp only
    split
    · exact .refuse _
    · exact .applied _ _ _
  | tuneQuery =>
    refine .ensure (.ensure ?_)
    split
    · exact .refuse _
    · exact .done _ _
  | rosterList => exact answers_rosterChecks _ _ _ (.applied _ _ _)
  | rosterUnlist => exact answers_rosterChecks _ _ _ (.applied _ _ _)
  | rosterChair => exact answers_rosterChecks _ _ _ (.applied _ _ _)
  | rosterClass =>
    refine answers_rosterChecks _ _ _ ?_
    dsimp only
    split
    · exact .refuse _
    · exact .applied _ _ _
  | exclude =>
    refine .ensure (.ensure ?_)
    dsimp only
    split
    · exact .refuse _
    · exact .applied _ _ _
  | readChannel =>
    refine .ensure (.ensure ?_)
    split
    · exact .refuse _
    · exact .done _ _
  | readTalkers => exact .ensure (.ensure (.done _ _))
  | readLegs => exact .ensure (.ensure (.done _ _))
  | readPorts => exact .ensure (.ensure (.done _ _))
  | readFaults => exact .ensure (.ensure (.done _ _))
  | readRoom => exact .ensure (.ensure (.done _ _))
  | clearFaults => exact .ensure (.ensure (.applied _ _ _))
  | storeRead => exact .ensure (.ensure (.ensure (.applied _ _ _)))
  | storeStatus => exact .ensure (.ensure (.done _ _))
  | storeWrite => exact .ensure (.ensure (.ensure (.ensure (.ensure (answers_beginOp _ _ _)))))
  | storeCommit =>
    refine .ensure (.ensure (.ensure (.ensure ?_)))
    split
    · exact .done _ _
    · exact answers_beginOp _ _ _
  | storeErase => exact .ensure (.ensure (.ensure (.ensure (.ensure (answers_beginOp _ _ _)))))
  | profileLoad => exact .ensure (.ensure (.ensure (.ensure (.done _ _))))

/-! ### Rows of frames (R151, Table 9-3) -/

theorem RequestFrame.row_of_bad {f : RequestFrame} {x : Reason} (h : f.bad = some x) : f.row = .badFrame := by
  simp [RequestFrame.row, h]

theorem RequestFrame.row_of_unknown {f : RequestFrame} (h : f.bad = none)
    (hcode : f.code.toNat ∉ [0x01, 0x02, 0x03, 0x04, 0x05, 0x06, 0x10, 0x11, 0x12, 0x13, 0x14, 0x20, 0x30, 0x31, 0x32, 0x33,
      0x40, 0x41, 0x42, 0x43, 0x44, 0x45, 0x46, 0x50, 0x51, 0x52, 0x53, 0x54, 0x55]) : f.row = .unknown := by
  simp only [List.mem_cons, List.not_mem_nil, or_false, not_or] at hcode
  simp [RequestFrame.row, h, rowOfCode, hcode]

theorem RequestRow.openToAll_eq_false_iff (row : RequestRow) :
    row.openToAll = false ↔ row ∉ [RequestRow.badFrame, .unknown, .join, .ident] := by
  cases row <;> decide

/-- The command byte is answered as it came, whatever its row is (R151). -/
theorem outcomeOf_notJoined {row : RequestRow} {q : PortId} {s : State} (hrow : row.openToAll = false)
    (hjoined : (s.port q).joined = false) (f : RequestFrame) : outcomeOf row (requestOf row) q f s = .error .notJoined := by
  simp [outcomeOf, ensure, refuse, hrow, hjoined]

theorem Port.joined_eq_false_iff (port : Port) : port.joined = false ↔ port.state = .detached ∨ port.state = .absent := by
  cases hstate : port.state <;> simp [Port.joined, hstate]

@[simp] theorem State.joined_headTaken (s : State) (q k : PortId) (rest : List RequestFrame) :
    ((s.headTaken q rest).port k).joined = (s.port k).joined := by
  rw [State.headTaken, State.port_modPort]
  split <;> rfl

/-! ### Selection and the end of a shift (R147, R148) -/

theorem Port.flagsByte_eq (port : Port) : port.flagsByte =
    byteOf (port.overrun.toNat + 2 * (decide (port.pendingSet ≠ 0)).toNat + 4 * (port.state == .stale).toNat) := by
  unfold Port.flagsByte byteOfBits numberOfBits
  cases port.overrun <;> cases decide (port.pendingSet ≠ 0) <;> cases port.state == .stale <;> rfl

theorem State.modPort_congr {s : State} {q : PortId} {f g : Port → Port} (h : f (s.port q) = g (s.port q)) :
    s.modPort q f = s.modPort q g := by
  refine State.mapPorts_congr fun k => ?_
  by_cases hk : k = q
  · subst hk; simp [h]
  · simp [hk]

theorem execSelection_of_idle {s : State} {q : PortId} (h : (s.port q).transaction = none) : execSelection q s =
    .next (s.modPort q fun port => { port with transaction := some (s.port q).openTransaction }) := by
  rw [execSelection, h]
  exact congrArg Host.Outcome.next (State.modPort_congr rfl)

end Sys2Proof.Machine

open Sys2Proof Sys2Proof.Machine

/-- Settles O5: the transaction takes the reply at the head, or the NONE frame, under the flags that stand. -/
theorem selectionFixesTheFrame : Obligations.SelectionFixesTheFrame := by
  intro s q h
  refine ⟨fun hempty => ?_, fun r more hreplies => ?_⟩
  · refine (execSelection_of_idle h).trans (congrArg Host.Outcome.next (State.modPort_congr ?_))
    simp [Port.openTransaction, hempty, noneFrame, withCheck, Port.flagsByte_eq]
  · refine (execSelection_of_idle h).trans (congrArg Host.Outcome.next (State.modPort_congr ?_))
    have hopened : (s.port q).openTransaction = ⟨r.frame (s.port q).flagsByte, true, (s.port q).overrun, false⟩ := by
      rw [Port.openTransaction, hreplies]
    rw [hopened, Port.flagsByte_eq]
    rfl

/-- Settles O8: a turn takes the head frame away and queues one reply, and does nothing while four wait. -/
theorem everyTurnGivesOneReply : Obligations.EveryTurnGivesOneReply := by
  intro s q f rest
  refine ⟨fun h => ?_, fun hrequests hfull => ?_⟩
  · cases ho : outcomeOf f.row (requestOf f.row) q f (s.headTaken q rest) with
    | error x =>
      obtain ⟨hrest, hreplies, hattention⟩ := (s.port q).answered_queues rest ⟨.refused x, f.code, []⟩
      rw [← State.port_answered_self] at hrest hreplies hattention
      exact ⟨_, h.exec_error ho, hrest, _, hreplies, rfl, hattention⟩
    | ok r =>
      obtain ⟨a, t⟩ := r
      obtain ⟨hrest, hreplies, hattention⟩ := State.queues_settle_queueReply ((outcomeOf_keeps f.row q f _) a t ho).queues
        ⟨a.status, f.code, a.payload⟩
      exact ⟨_, (exec_command _ _ _).trans (congrArg Host.Outcome.next (h.takeTurn_executed rfl ho)), hrest, _, hreplies, rfl, hattention⟩
  · rw [exec_command]
    simp [takeTurn, hrequests, replyLimit, Nat.not_lt.2 hfull]

/-- Settles O9: a reply of status REFUSED comes of a refusal, which changes the two queues alone. -/
theorem refusedRequestChangesNothing : Obligations.RefusedRequestChangesNothing := by
  intro s t q f rest r x h hexec hreplies hstatus
  cases ho : outcomeOf f.row (requestOf f.row) q f (s.headTaken q rest) with
  | error y =>
    obtain rfl := Host.Outcome.next.inj ((h.exec_error ho).symm.trans hexec)
    rw [State.port_answered_self] at hreplies
    obtain rfl : _ = r := List.singleton_inj.1 (List.append_cancel_left hreplies)
    exact ⟨rfl, rfl⟩
  | ok o =>
    obtain ⟨a, u⟩ := o
    rw [exec_command, h.takeTurn_executed rfl ho] at hexec
    obtain rfl := Host.Outcome.next.inj hexec
    obtain ⟨-, hqueued, -⟩ := State.queues_settle_queueReply ((outcomeOf_keeps f.row q f _) a u ho).queues
      ⟨a.status, f.code, a.payload⟩
    obtain rfl : _ = r := List.singleton_inj.1 (List.append_cancel_left (hqueued.symm.trans hreplies))
    exact absurd hstatus (Outcome.Answers.ensure (requestOf_answers f.row q f _) a u ho x)

/-- Settles O10: CP answers these frames itself, in the order of R151. -/
theorem framesThatReachNoBlock : Obligations.FramesThatReachNoBlock := by
  intro s q f rest h
  refine ⟨fun x hbad => ?_, fun hgood hcode => ?_, fun hstate hrow => ?_⟩
  · have hrow := RequestFrame.row_of_bad hbad
    refine congrArg Host.Outcome.next (h.takeTurn_error hrow ?_)
    simp [outcomeOf, ensure, RequestRow.openToAll, requestBadFrame, refuse, hbad]
  · exact congrArg Host.Outcome.next (h.takeTurn_error (RequestFrame.row_of_unknown hgood hcode) rfl)
  · have hjoined : ((s.headTaken q rest).port q).joined = false := by
      rw [State.joined_headTaken]; exact (Port.joined_eq_false_iff _).2 hstate
    exact h.exec_error (outcomeOf_notJoined ((RequestRow.openToAll_eq_false_iff _).2 hrow) hjoined f)
end

section
/-! Frames shifted out and frames clocked in (R147 to R150). -/

namespace Sys2Proof.Machine

/-! ### The end of a shift (R148, R151) -/

/-- A change of one port of a settled state, with the attention line that follows (R160). -/
theorem State.settle_modPort {s : State} (h : s.settled) (q : PortId) (g : Port → Port) :
    (s.modPort q g).settle = s.modPort q fun port => (g port).refreshed := by
  rw [State.modPort, State.settle_mapPorts h]
  refine State.mapPorts_congr fun k => ?_
  by_cases hk : k = q
  · simp [hk, Port.refreshed]
  · have hattention := ((State.settled_iff s).1 h).2 k
    simp only [hk, if_false]
    rw [← hattention]

theorem takeTurn_transaction (row : RequestRow) (q : PortId) (s : State) :
    ((takeTurn row (requestOf row) q s).port q).transaction = (s.port q).transaction := by
  rcases takeTurn_cases s q row (requestOf row) with h | ⟨f, rest, -, -, -, ⟨x, -, h⟩ | ⟨a, t, hok, h⟩⟩
  · rw [h]
  · rw [h]; simp [State.queueReply]
  · obtain ⟨-, -, htransaction⟩ := (outcomeOf_keeps row q f (s.headTaken q rest) a t hok).queues q
    rw [h]
    simp [State.queueReply, htransaction, State.headTaken]

theorem takeHead_transaction (q : PortId) (s : State) : ((takeHead q s).port q).transaction = (s.port q).transaction := by
  unfold takeHead
  split
  · rfl
  · exact takeTurn_transaction _ q s

theorem completeShift_of_complete {s : State} {q : PortId} {x : Transaction} (h : (s.port q).transaction = some x)
    (hc : x.complete = true) : completeShift q s = s := by
  simp [completeShift, h, hc]

theorem completeShift_of_open {s : State} {q : PortId} {x : Transaction} (h : (s.port q).transaction = some x)
    (hc : x.complete = false) : completeShift q s =
      if x.isReply && decide (4 ≤ (s.port q).replies.length)
      then takeHead q (s.modPort q fun port => port.afterShift x).settle else (s.modPort q fun port => port.afterShift x).settle := by
  simp only [completeShift, h, hc, Bool.false_eq_true, if_false]
  rfl

/-- A transaction whose frame has been shifted out goes on as complete (R148). -/
theorem completeShift_transaction {s : State} {q : PortId} {x : Transaction} (h : (s.port q).transaction = some x)
    (hc : x.complete = false) : ((completeShift q s).port q).transaction = some { x with complete := true } := by
  have hshift : ((s.modPort q fun port => port.afterShift x).settle.port q).transaction = some { x with complete := true } := by
    simp [Port.afterShift]
  rw [completeShift_of_open h hc]
  split
  · rw [takeHead_transaction, hshift]
  · exact hshift

theorem takeHead_of_empty {s : State} {q : PortId} (h : (s.port q).requests = []) : takeHead q s = s := by
  rw [takeHead, h]

theorem takeHead_of_cons {s : State} {q : PortId} {f : RequestFrame} {rest : List RequestFrame} (h : (s.port q).requests = f :: rest) :
    exec (f.row.command q) s = .next (takeHead q s) := by
  rw [exec_command, takeHead, h]

/-! ### Deselection (R147 to R150) -/

theorem execDeselection_of_open {s : State} {q : PortId} {x : Transaction} (h : (s.port q).transaction = some x) (clocked : List Bool) :
    execDeselection q clocked s = .next
      ((if (wireBits x.frame).length ≤ clocked.length then completeShift q s else s).modPort q fun port => port.deselect x clocked) := by
  rw [execDeselection, h]
  rfl

theorem Port.deselect_of_none {bytes : List Byte} {part : List Bool} (hpart : part.length < 8) (port : Port) (x : Transaction)
    (h : judgeFrame bytes = none) : port.deselect x (wireBits bytes ++ part) =
      { port with transaction := none, lastSent := shiftedOut x.frame (wireBits bytes ++ part).length } := by
  simp [Port.deselect, bytesClocked_wireBits bytes part hpart, h]

theorem Port.deselect_of_some {bytes : List Byte} {part : List Bool} (hpart : part.length < 8) (port : Port) (x : Transaction)
    {f : RequestFrame} (h : judgeFrame bytes = some f) : port.deselect x (wireBits bytes ++ part) =
      Port.receive { port with transaction := none, lastSent := shiftedOut x.frame (wireBits bytes ++ part).length } f := by
  simp [Port.deselect, bytesClocked_wireBits bytes part hpart, h]

theorem judgeFrame_of_none {bytes : List Byte} (h : bytes.length < 2 ∨ bytes.head? = some 0x00) : judgeFrame bytes = none := by
  unfold judgeFrame
  split
  · rename_i code len rest
    rcases h with h | h
    · simp at h
    · rw [if_pos (Option.some.inj h)]
  · rfl

/-- The tests of R149 in their order. -/
theorem judgeFrame_of_request {code len : Byte} (rest : List Byte) (hcode : code ≠ 0x00) : judgeFrame (code :: len :: rest) = some
    (if 20 < len.toNat ∨ (code :: len :: rest).length ≠ len.toNat + 3 then ⟨code, [], some .length⟩
     else if (code :: len :: rest).getLast? ≠ some (crc8 (code :: len :: rest).dropLast) then ⟨code, [], some .check⟩
     else ⟨code, ((code :: len :: rest).drop 2).dropLast, none⟩) := by
  have hform : (20 < len.toNat ∨ (code :: len :: rest).length ≠ len.toNat + 3) ↔
      (maxOperands < len.toNat ∨ rest.length ≠ len.toNat + 1) := by
    simp only [List.length_cons, maxOperands]; omega
  rw [judgeFrame, if_neg hcode]
  by_cases hfits : maxOperands < len.toNat ∨ rest.length ≠ len.toNat + 1
  · rw [if_pos hfits, if_pos (hform.2 hfits)]
  · rw [if_neg hfits, if_neg (mt hform.1 hfits)]
    have hne : rest ≠ [] := fun h => hfits (.inr (by rw [h]; simp))
    have hlast : (code :: len :: rest).getLast? = rest.getLast? := by
      rw [List.getLast?_cons_cons, List.getLast?_cons_of_ne_nil hne]
    have hdrop : (code :: len :: rest).dropLast = code :: len :: rest.dropLast := by
      rw [List.dropLast_cons_of_ne_nil (by simp), List.dropLast_cons_of_ne_nil hne]
    rw [hlast, hdrop]
    split <;> rfl

end Sys2Proof.Machine

open Sys2Proof Sys2Proof.Machine

/-- Settles O6: the port changes as R148 and R152 say, and a head frame that waited is taken as its row's command takes it. -/
theorem shiftedOutReplyLeaves : Obligations.ShiftedOutReplyLeaves := by
  intro s q x hs hx hc
  have hleft : (s.modPort q fun port => port.afterShift x).settle = s.modPort q fun port => { port with
      transaction := some { x with complete := true }
      overrun := port.overrun && !x.carriesOverrun
      replies := if x.isReply then (s.port q).replies.tail else (s.port q).replies
      attention := !(if x.isReply then (s.port q).replies.tail else (s.port q).replies).isEmpty || decide (port.pendingSet ≠ 0) } :=
    (State.settle_modPort hs q _).trans (State.modPort_congr rfl)
  have hexec : exec (.replyFullyShiftedOut q) s = .next (completeShift q s) := rfl
  rw [hexec, completeShift_of_open hx hc, hleft]
  refine ⟨fun hidle => ?_, fun f rest hreply hfull hrequests => ?_⟩
  · split
    · rename_i hwaits
      simp only [Bool.and_eq_true, decide_eq_true_eq] at hwaits
      obtain ⟨hreply, hfull⟩ := hwaits
      have hempty : (s.port q).requests = [] := by
        rcases hidle with h | h | h
        · rw [h] at hreply; cases hreply
        · omega
        · exact h
      rw [takeHead_of_empty (by simpa using hempty)]
    · rfl
  · rw [if_pos (by simp [hreply, hfull])]
    exact (takeHead_of_cons (rest := rest) (by simpa using hrequests)).symm

/-- Settles O7: the bytes clocked in are judged by the tests of R149, and what has been shifted out leaves before. -/
theorem deselectionReceivesTheFrame : Obligations.DeselectionReceivesTheFrame := by
  refine ⟨fun s q x clocked hx hc hall => ?_, fun s q x bytes part hx hpart hshift => ?_⟩
  · refine ⟨_, rfl, ?_⟩
    have hu := completeShift_transaction hx hc
    refine (execDeselection_of_open hx clocked).trans (Eq.trans ?_ (execDeselection_of_open hu clocked).symm)
    rw [if_pos hall, completeShift_of_complete hu rfl, ite_self]
    rfl
  · have hbefore : (if (wireBits x.frame).length ≤ (wireBits bytes ++ part).length then completeShift q s else s) = s := by
      rcases hshift with hc | hshort
      · rw [completeShift_of_complete hx hc, ite_self]
      · rw [if_neg]
        simp only [List.length_append, wireBits_length]
        omega
    have hexec := execDeselection_of_open hx (wireBits bytes ++ part)
    rw [hbefore] at hexec
    refine ⟨fun hnone => ?_, fun code len rest hbytes hcode => ?_⟩
    · refine hexec.trans (congrArg Host.Outcome.next (State.modPort_congr ?_))
      rw [Port.deselect_of_none hpart _ _ (judgeFrame_of_none hnone), shiftedOut_eq]
    · subst hbytes
      refine hexec.trans (congrArg Host.Outcome.next (State.modPort_congr ?_))
      rw [Port.deselect_of_some hpart _ _ (judgeFrame_of_request rest hcode), shiftedOut_eq]
      rfl
end

section
/-! JOIN, PULSE and the presence timer (R154, R156, R157), as changes of the port records. -/

namespace Sys2Proof.Machine

/-! ### Turns whose effects are on port records alone (R151) -/

section
variable {s : State} {q : PortId} {f : RequestFrame} {rest : List RequestFrame} {row : RequestRow} {request : Request} {role : Role}

theorem JoinedAs.outcomeOf_eq (hj : JoinedAs s q role) : outcomeOf row request q f s = request q f s := by
  simp [outcomeOf, hj.joined, ensure]

/-- The turn of an executed request whose effects are on the ports' records alone. -/
theorem AtTurn.takeTurn_mapPorts {a : Answer} {g : PortId → Port → Port} (h : AtTurn s q f rest) (hrow : f.row = row)
    (ho : outcomeOf row request q f (s.headTaken q rest) = .ok (a, (s.mapPorts g).headTaken q rest)) :
    takeTurn row request q s = s.mapPorts fun k port =>
      if k = q then (g k port).answered rest ⟨a.status, f.code, a.payload⟩ else (g k port).refreshed := by
  rw [h.takeTurn_executed hrow ho, State.settle_answered, State.settle_mapPorts h.settled, State.answered, State.modPort,
    State.mapPorts_mapPorts]
  refine State.mapPorts_congr fun k => ?_
  split <;> rfl

theorem State.refreshed_of_settled (h : s.settled) (k : PortId) : (s.port k).refreshed = s.port k := by
  obtain ⟨-, hports⟩ := (State.settled_iff s).1 h
  rw [Port.refreshed, ← hports k]

/-- A port that a notice reaches or not, in a settled state (R158, R160). -/
theorem State.refreshed_notifyIf (h : s.settled) (k : PortId) (b : Bool) (c : Category) :
    (if b then (s.port k).notify c else s.port k).refreshed = (s.port k).noticed (onlyIf b c) :=
  (Port.noticed_onlyIf (((State.settled_iff s).1 h).2 k) b c).symm

theorem State.mapPorts_frame (s : State) (g : PortId → Port → Port) :
    s.mapPorts g = { s with ports := (s.mapPorts g).ports } := rfl

end

/-! ### PULSE (R156) -/

theorem exec_pulse (q : PortId) (s : State) : exec (.pulse q) s = .next (takeTurn .pulse requestPulse q s) := rfl

theorem row_pulse (operands : List Byte) : (goodFrame 0x03 operands).row = .pulse := rfl

/-- A port that a PULSE with this phase has reached (R156). -/
def Port.pulsed (port : Port) (phase presence : Nat) : Port :=
  { port with state := .attached, lastPhase := phase, timer := some presence }

/-- The ports after an accepted PULSE: its own is ATTACHED, and one that was STALE is reported to the others (R156, R158). -/
def State.portAfterPulse (s : State) (q : PortId) (phase : Nat) (k : PortId) (port : Port) : Port :=
  if k = q then port.pulsed phase s.tuning.presence
  else if (s.port q).state == .stale then port.notify .ports else port

theorem State.takePulse_eq (s : State) (q : PortId) (phase : Nat) : s.takePulse q phase = s.mapPorts (s.portAfterPulse q phase) := by
  unfold State.takePulse
  dsimp only
  cases hstale : (s.port q).state == .stale with
  | true =>
    rw [if_pos (by simpa using hstale)]
    simp only [State.modPort, State.raisePortsOthers, State.mapPorts_mapPorts]
    refine State.mapPorts_congr fun k => ?_
    by_cases hk : k = q <;> simp [State.portAfterPulse, hk, Port.pulsed, hstale]
  | false =>
    rw [if_neg (by simpa using hstale)]
    refine State.mapPorts_congr fun k => ?_
    by_cases hk : k = q <;> simp [State.portAfterPulse, hk, Port.pulsed, hstale]

theorem State.mapPorts_portAfterPulse_headTaken (s : State) (q : PortId) (rest : List RequestFrame) (phase : Nat) :
    (s.headTaken q rest).takePulse q phase = (s.mapPorts (s.portAfterPulse q phase)).headTaken q rest := by
  have hstate : ((s.headTaken q rest).port q).state = (s.port q).state := by simp [State.headTaken]
  rw [State.takePulse_eq]
  simp only [State.headTaken, State.modPort, State.mapPorts_mapPorts] at hstate ⊢
  refine State.mapPorts_congr fun k => ?_
  by_cases hk : k = q <;> simp [State.portAfterPulse, hk, Port.pulsed]

theorem requestPulse_length {s : State} {q : PortId} {operands : List Byte} (h : operands.length ≠ 1) :
    requestPulse q (goodFrame 0x03 operands) s = refuse .length := by
  simp [requestPulse, goodFrame, ensure, h]

/-- PULSE with one operand: its range, then its phase against the last (R156). -/
theorem requestPulse_one (s : State) (q : PortId) (phase : Byte) : requestPulse q (goodFrame 0x03 [phase]) s =
    if phase.toNat ≤ 1 then
      if phase.toNat ≠ (s.port q).lastPhase then answerDone [phase] (s.takePulse q phase.toNat) else refuse .repeated
    else refuse .range := by
  have hnumber : number [phase] = phase.toNat := by simp [number]
  simp [requestPulse, goodFrame, ensure, hnumber]

theorem State.lastPhase_headTaken (s : State) (q : PortId) (rest : List RequestFrame) :
    ((s.headTaken q rest).port q).lastPhase = (s.port q).lastPhase := by simp [State.headTaken]

end Sys2Proof.Machine

open Sys2Proof Sys2Proof.Machine

/-- Settles O14: the checks of PULSE in order, and the turn of an accepted one, which changes port records alone. -/
theorem pulseRefreshesPresence : Obligations.PulseRefreshesPresence := by
  refine ⟨fun s q role operands rest hlength h hj => ?_, fun s q role phase rest h hj => ?_⟩
  · rw [exec_pulse, h.takeTurn_refused hj (row_pulse operands) (requestPulse_length hlength)]
    rfl
  have ho := requestPulse_one (s.headTaken q rest) q phase
  rw [State.lastPhase_headTaken] at ho
  refine ⟨fun hrange hnew => ?_, fun hrange hsame => ?_, fun hrange => ?_⟩
  · rw [if_pos hrange, if_pos hnew, State.mapPorts_portAfterPulse_headTaken] at ho
    refine ⟨_, (exec_pulse q s).trans (congrArg _ (h.takeTurn_mapPorts (row_pulse [phase])
      ((hj.headTaken rest).outcomeOf_eq.trans ho))), fun k => ?_, State.mapPorts_frame _ _⟩
    rw [State.port_mapPorts]
    by_cases hk : k = q
    · subst hk
      rw [if_pos rfl, if_pos rfl, State.portAfterPulse, if_pos rfl]
      rfl
    · rw [if_neg hk, if_neg hk, State.portAfterPulse, if_neg hk]
      exact State.refreshed_notifyIf h.settled k _ _
  · rw [if_pos hrange, if_neg (not_not.2 hsame)] at ho
    rw [exec_pulse, h.takeTurn_refused hj (row_pulse [phase]) ho]
    rfl
  · rw [if_neg (Nat.not_le.2 hrange)] at ho
    rw [exec_pulse, h.takeTurn_refused hj (row_pulse [phase]) ho]
    rfl
end
section
namespace Sys2Proof.Machine

/-! ### JOIN (R154) -/

theorem exec_join (q : PortId) (s : State) : exec (.join q) s = .next (takeTurn .join requestJoin q s) := rfl

theorem row_join (operands : List Byte) : (goodFrame 0x01 operands).row = .join := rfl

/-- Whether a JOIN ends a latched PORT_LOST, which FAULTS then reports (R165; log 13). -/
def Port.joinEndsFault (port : Port) : Bool := port.state == .absent && port.portLost.latch && port.portLost.condition

/-- The ports after a JOIN: its own is ATTACHED in the role, and the others are told (R154, R158). -/
def State.portAfterJoin (s : State) (q : PortId) (role : Role) (k : PortId) (port : Port) : Port :=
  let claimed := if k = q then port.joinedAs role s.tuning.presence else port.notify .ports
  if (s.port q).joinEndsFault then claimed.notify .faults else claimed

theorem State.takeJoin_eq_mapPorts (s : State) (q : PortId) (role : Role) :
    s.takeJoin q role = s.mapPorts (s.portAfterJoin q role) := by
  have hends : (decide ((s.port q).state = .absent) && (s.port q).portLost.reportNotice false) = (s.port q).joinEndsFault := by
    unfold Port.joinEndsFault
    cases (s.port q).state <;> rfl
  rw [State.takeJoin_eq, hends, State.raiseIf_eq_mapPorts]
  simp only [State.modPort, State.raisePortsOthers, State.mapPorts_mapPorts]
  refine State.mapPorts_congr fun k => ?_
  by_cases hk : k = q <;> simp [State.portAfterJoin, hk]

theorem State.takeJoin_headTaken (s : State) (q : PortId) (role : Role) (rest : List RequestFrame) :
    (s.headTaken q rest).takeJoin q role = (s.mapPorts (s.portAfterJoin q role)).headTaken q rest := by
  have hends : ((s.headTaken q rest).port q).joinEndsFault = (s.port q).joinEndsFault := by
    simp [State.headTaken, Port.joinEndsFault]
  have hafter : (s.headTaken q rest).portAfterJoin q role = s.portAfterJoin q role := by
    funext k port
    rw [State.portAfterJoin, hends, State.tuning_headTaken, State.portAfterJoin]
  rw [State.takeJoin_eq_mapPorts, hafter]
  simp only [State.headTaken, State.modPort, State.mapPorts_mapPorts]
  refine State.mapPorts_congr fun k => ?_
  by_cases hk : k = q
  · subst hk
    cases hb : (s.port k).joinEndsFault <;> simp [State.portAfterJoin, hb, Port.joinedAs, Port.join, Port.notify, Port.joined]
  · simp [hk]

/-- JOIN with one operand that names a role: its refusals in order, and the claim (R154). -/
theorem requestJoin_one (s : State) (q : PortId) {b : Byte} {role : Role} (hrole : roleOfCode b.toNat = some role) :
    requestJoin q (goodFrame 0x01 [b]) s =
      if (s.port q).joined then refuse .alreadyJoined
      else if s.roleTaken q role then refuse .roleTaken
      else answerDone [byteOf q.val, roleCode (some role)] (s.takeJoin q role) := by
  have hnumber : number [b] = b.toNat := by simp [number]
  simp only [requestJoin, goodFrame, ensure, hnumber, hrole, List.length_singleton, beq_self_eq_true, if_true]
  cases (s.port q).joined <;> cases s.roleTaken q role <;> rfl

theorem State.roleTaken_headTaken (s : State) (q : PortId) (rest : List RequestFrame) (role : Role) :
    (s.headTaken q rest).roleTaken q role = s.roleTaken q role := by
  have hports (k : PortId) : (k != q && ((s.headTaken q rest).port k).joined && ((s.headTaken q rest).port k).role == some role) =
      (k != q && (s.port k).joined && (s.port k).role == some role) := by
    by_cases hk : k = q <;> simp [State.headTaken, hk]
  simp only [State.roleTaken, hports]

theorem State.roleTaken_iff_joinedAs (s : State) (q : PortId) (role : Role) :
    s.roleTaken q role = false ↔ role = .view ∨ ∀ k, k ≠ q → ¬ JoinedAs s k role := by
  rw [State.roleTaken_eq_false_iff]
  refine or_congr_right (forall_congr' fun k => forall_congr' fun _ => ⟨fun h hj => h hj.joined hj.role, fun h hj hr => h ⟨?_, hr⟩⟩)
  simpa [Port.joined] using hj

/-- A port in DETACHED or ABSENT is not joined. -/
theorem Port.joined_of_vacant {port : Port} (h : port.state = .detached ∨ port.state = .absent) : port.joined = false := by
  rcases h with h | h <;> rw [Port.joined, h] <;> rfl

/-- The port of a JOIN when its turn ends (R153, R154, R158). -/
theorem State.portAfterJoin_self (s : State) (q : PortId) (role : Role) (rest : List RequestFrame) (r : Reply) :
    (s.portAfterJoin q role q (s.port q)).answered rest r = { s.port q with
      state := .attached, role := some role, lastPhase := 1, timer := some s.tuning.presence
      mask := 0b1111111#7, pendingSet := onlyIf (s.port q).joinEndsFault .faults
      portLost := if (s.port q).state == .absent then { (s.port q).portLost with condition := false } else (s.port q).portLost
      requests := rest, replies := (s.port q).replies ++ [r], attention := true } := by
  have hlost : (if (s.port q).state = .absent then (s.port q).portLost.report false else (s.port q).portLost) =
      if (s.port q).state == .absent then { (s.port q).portLost with condition := false } else (s.port q).portLost := by
    cases (s.port q).state <;> rfl
  rw [State.portAfterJoin, if_pos rfl, Port.joinedAs, hlost]
  cases (s.port q).joinEndsFault with
  | false => rfl
  | true =>
    have hfaults : (0 : CategorySet) ||| (allCategories &&& Category.faults.bit) = onlyIf true .faults := by decide
    rw [← hfaults]
    rfl

end Sys2Proof.Machine

open Sys2Proof Sys2Proof.Machine

/-- Settles O11: the turn of a JOIN that passes its checks, which changes port records alone. -/
theorem joinClaimsTheRole : Obligations.JoinClaimsTheRole := by
  intro s q b role rest h hb hstate hfree
  have hrole : roleOfCode b.toNat = some role := by
    rcases hb with ⟨rfl, rfl⟩ | ⟨rfl, rfl⟩ | ⟨rfl, rfl⟩ <;> rfl
  have hcode : roleCode (some role) = b := by
    rcases hb with ⟨rfl, rfl⟩ | ⟨rfl, rfl⟩ | ⟨rfl, rfl⟩ <;> rfl
  have hvacant : ((s.headTaken q rest).port q).joined = false := by
    rw [State.joined_headTaken]
    exact Port.joined_of_vacant hstate
  have ho := requestJoin_one (s.headTaken q rest) q hrole
  rw [hvacant, State.roleTaken_headTaken, (s.roleTaken_iff_joinedAs q role).2 hfree, State.takeJoin_headTaken, hcode] at ho
  have houtcome : outcomeOf .join requestJoin q (goodFrame 0x01 [b]) (s.headTaken q rest) = _ := ho
  refine ⟨_, (exec_join q s).trans (congrArg _ (h.takeTurn_mapPorts (row_join [b]) houtcome)), fun k => ?_, State.mapPorts_frame _ _⟩
  rw [State.port_mapPorts]
  by_cases hk : k = q
  · subst hk
    rw [if_pos rfl, if_pos rfl]
    exact State.portAfterJoin_self s k role rest _
  · rw [if_neg hk, if_neg hk, State.portAfterJoin, if_neg hk]
    exact (Port.noticed_two (((State.settled_iff s).1 h.settled).2 k) true _ .ports .faults).symm
end

section
/-! PRESENCE_TIMER_EXPIRY (R157): the first expiry, and the second with the vacancy of the role that the port held. -/

namespace Sys2Proof.Machine

/-! ### An event at MA with a change of port records (R21, R22) -/

section
variable (s t : State) (g : PortId → Port → Port)

@[simp] theorem talkersLeft_mapPorts : talkersLeft s (t.mapPorts g) = talkersLeft s t := by simp [talkersLeft]

@[simp] theorem holdNotices_mapPorts : holdNotices s (t.mapPorts g) = holdNotices s t := by
  simp [holdNotices, holdsDiffer, talkersMoved]

@[simp] theorem heldPods_mapPorts : heldPods s (t.mapPorts g) ↔ heldPods s t := by
  simp [heldPods, flagLeft, Pod.following]

end

section
variable {s after : State} (g : PortId → Port → Port)

theorem HoldChange.heldPods (h : HoldChange s after) (hpods : ∀ p, after.pod p = { s.pod p with holds := (after.pod p).holds }) :
    heldPods s (holdEvent s after) := fun p => by rw [holds_holdEvent, h.pod_eq, hpods p]

/-- What an event at MA that changes rooms alone leaves as it stands, once port records have changed too. -/
theorem HoldChange.mapPorts_frame (h : HoldChange s after) (hroom : RoomChange s after) :
    let t := (holdEvent s after).mapPorts g
    t = { s with pods := t.pods, legs := t.legs, privacy := t.privacy, talkers := talkersLeft s t, ports := t.ports } := by
  intro t
  have hlegs : t.legs = after.legs := by simp only [t, State.legs_mapPorts, legs_holdEvent]
  have hprivacy : t.privacy = after.privacy := by simp only [t, State.privacy_mapPorts, privacy_holdEvent]
  have hpods : t.pods = (holdEvent s after).pods := State.pods_mapPorts ..
  have hframe : t = { holdEvent s after with ports := t.ports } := rfl
  rw [talkersLeft_mapPorts, ← h.talkers_eq, hlegs, hprivacy, hpods]
  refine hframe.trans (Eq.trans ?_ (congrArg (fun u : State => { u with
    pods := (holdEvent s after).pods, talkers := (holdEvent s after).talkers, ports := t.ports }) hroom))
  exact State.withPorts_congr t.ports (holdEvent_eq s after)

end

/-! ### The vacancy of a role by its second expiry (R125, R126) -/

section
variable (s : State) (q : PortId) (p : PodId) (m : LegId)

/-- Whether the port that turns ABSENT leaves legs to close (R125). -/
def State.expiryCloses : Bool := (s.port q).role == some .call && s.anyLegActive

theorem State.vacateLegs_role_pod : (s.vacateLegs (s.port q).role).pod p =
    { s.pod p with holds := { (s.pod p).holds with
        call := (s.pod p).holds.call && !(s.expiryCloses q && s.tuning.lastCloseDropCallHolds)
        pod := (s.pod p).holds.pod && !(s.expiryCloses q && s.tuning.lastCloseDropPodHolds) } } := by
  unfold State.vacateLegs State.expiryCloses
  by_cases hcall : (s.port q).role = some .call
  · have hclose := (s.closeLegs_lastClose p fun _ => true).1
    rw [s.lastCloses_all] at hclose
    rw [if_pos hcall, hclose, hcall]
    cases s.anyLegActive <;> simp [HoldSet.afterLastClose]
  · have hother : ((s.port q).role == some .call) = false := by simpa using hcall
    simp [hcall, hother]

theorem State.vacateLegs_role_privacy : (s.vacateLegs (s.port q).role).privacy =
    if s.expiryCloses q && s.tuning.lastCloseEndPrivacy then none else s.privacy := by
  unfold State.vacateLegs State.expiryCloses
  by_cases hcall : (s.port q).role = some .call
  · have hclose := (s.closeLegs_lastClose 0 fun _ => true).2
    rw [s.lastCloses_all] at hclose
    rw [if_pos hcall, hclose, hcall]
    cases s.anyLegActive <;> simp
  · have hother : ((s.port q).role == some .call) = false := by simpa using hcall
    simp [hcall, hother]

theorem State.vacateLegs_role_leg : (s.vacateLegs (s.port q).role).leg m =
    if (s.port q).role == some .call && (s.leg m).active then (s.leg m).close s.tuning.closeDropLegHolds else s.leg m := by
  unfold State.vacateLegs
  by_cases hcall : (s.port q).role = some .call <;> simp [hcall]

theorem HoldChange.vacateLegs : HoldChange s (s.vacateLegs (s.port q).role) :=
  ⟨fun p => by rw [State.vacateLegs_role_pod], (RoomChange.vacateLegs s _).talkers_eq, (RoomChange.vacateLegs s _).ports_eq⟩

/-- The event at MA of a second expiry. -/
def State.roleExpired : State := holdEvent s (s.vacateLegs (s.port q).role)

/-- The notices of a second expiry beside those of MA (R157, R158, R165). -/
def State.expiryNotices : CategorySet :=
  Category.ports.bit ||| onlyIf (!(s.port q).portLost.latch) .faults ||| onlyIf (s.expiryCloses q) .legs

/-- The ports after a second expiry: its own is ABSENT, and the others are told (R157, R158). -/
def State.portAfterExpiry (k : PortId) (port : Port) : Port :=
  if k = q then (port.noticed (s.expiryNotices q)).lostAt.refreshed else port.noticed (s.expiryNotices q)

/-- One port's record may change before the event ends or after. -/
theorem State.settle_modPort_lostAt : (s.modPort q Port.lostAt).settle = s.settle.modPort q fun port => port.lostAt.refreshed := by
  simp only [State.settle, State.modPort, State.mapPorts_mapPorts, State.mapPods_mapPorts, State.gateOf_mapPorts,
    State.patternOf_mapPorts]
  refine State.mapPorts_congr fun k => ?_
  by_cases hk : k = q
  · simp only [hk, if_true]
    rfl
  · simp [hk]

theorem State.settle_enterAbsent : (s.enterAbsent q).settle = (s.roleExpired q).mapPorts (s.portAfterExpiry q) := by
  have hnotices : Category.ports.bit ||| onlyIf ((s.port q).portLost.reportNotice true) .faults |||
      onlyIf ((s.port q).role == some .call && s.anyLegActive) .legs = s.expiryNotices q := rfl
  rw [State.enterAbsent_eq, State.settle_modPort_lostAt, State.vacancy, State.settle_raise, State.settle_raiseIf,
    State.settle_raiseIf, ← holdEvent, ← State.roleExpired, State.noticed_noticed, State.noticed_noticed, hnotices, State.noticed, State.modPort, State.mapPorts_mapPorts]
  refine State.mapPorts_congr fun k => ?_
  by_cases hk : k = q <;> simp only [hk, if_true, if_false, State.portAfterExpiry]

/-- A port that gives its role up keeps none of the notices that reached it (R157). -/
theorem Port.lostAt_noticed (cs : CategorySet) (port : Port) : (port.noticed cs).lostAt.refreshed = port.lostAt.refreshed := by
  unfold Port.noticed
  split <;> rfl

/-- A port that has turned ABSENT, field by field (R157, R160, R165). -/
theorem Port.refreshed_lostAt (port : Port) : port.lostAt.refreshed = { port with
    state := .absent, role := none, lastPhase := 1, timer := none, mask := 0, pendingSet := 0
    portLost := ⟨true, true⟩, attention := !port.replies.isEmpty } :=
  congrArg (fun a => { port with
    state := .absent, role := none, lastPhase := 1, timer := none, mask := 0, pendingSet := 0
    portLost := ⟨true, true⟩, attention := a }) (Bool.or_false _)

/-- A port after a second expiry (R157, R158). -/
theorem State.port_settle_enterAbsent (hs : s.settled) (k : PortId) : (s.enterAbsent q).settle.port k =
    if k = q then (s.port q).lostAt.refreshed
    else (s.port k).noticed (s.expiryNotices q ||| holdNotices s (s.enterAbsent q).settle) := by
  rw [State.settle_enterAbsent, State.port_mapPorts, holdNotices_mapPorts, State.roleExpired,
    (HoldChange.vacateLegs s q).port_eq hs, State.portAfterExpiry]
  by_cases hk : k = q
  · rw [if_pos hk, if_pos hk, Port.lostAt_noticed, Port.lostAt_noticed, hk]
  · rw [if_neg hk, if_neg hk, Port.noticed_noticed]

end

/-! ### The first expiry (R157) -/

/-- The ports after a first expiry: its own is STALE, and the others are told (R157, R158). -/
def State.portAfterStale (s : State) (q k : PortId) (port : Port) : Port :=
  if k = q then { port with state := .stale, lastPhase := 1, timer := some s.tuning.presence } else port.notify .ports

theorem State.enterStale_eq (s : State) (q : PortId) : s.enterStale q = s.mapPorts (s.portAfterStale q) := by
  simp only [State.enterStale, State.modPort, State.raisePortsOthers, State.mapPorts_mapPorts]
  refine State.mapPorts_congr fun k => ?_
  by_cases hk : k = q <;> simp [hk, State.portAfterStale]

/-- A port after a first expiry (R157, R158). -/
theorem State.port_settle_enterStale {s : State} (hs : s.settled) (q k : PortId) : (s.enterStale q).settle.port k =
    if k = q then { s.port q with state := .stale, lastPhase := 1, timer := some s.tuning.presence }
    else (s.port k).noticed Category.ports.bit := by
  have hattention := ((State.settled_iff s).1 hs).2 k
  rw [State.enterStale_eq, State.settle_mapPorts hs, State.port_mapPorts, State.portAfterStale]
  by_cases hk : k = q
  · subst hk
    simp only [if_true]
    exact congrArg (fun a => { s.port k with
      state := .stale, lastPhase := 1, timer := some s.tuning.presence, attention := a }) hattention.symm
  · rw [if_neg hk, if_neg hk]
    exact State.refreshed_notifyIf hs k true .ports

end Sys2Proof.Machine

open Sys2Proof Sys2Proof.Machine

/-- Settles O16: the first expiry changes port records alone; the second is an event at MA after which the port is ABSENT. -/
theorem presenceExpiries : Obligations.PresenceExpiries := by
  intro s q hs
  refine ⟨fun hstate => ?_, fun hstate => ?_⟩
  · have hexec : exec (.presenceTimerExpiry q) s = .next (s.enterStale q).settle := by
      simp only [exec, execPresenceTimerExpiry, hstate, finish]
    refine ⟨_, hexec, State.port_settle_enterStale hs q, ?_⟩
    rw [State.enterStale_eq, State.settle_mapPorts hs]
    rfl
  · have hexec : exec (.presenceTimerExpiry q) s = .next (s.enterAbsent q).settle := by
      simp only [exec, execPresenceTimerExpiry, hstate, finish]
    have hchange := HoldChange.vacateLegs s q
    refine ⟨_, hexec, fun p => ?_, fun m => ?_, ?_, ?_, fun k => ?_, ?_⟩
    · rw [State.settle_enterAbsent, State.pod_mapPorts, State.roleExpired, holds_holdEvent, State.vacateLegs_role_pod]
      rfl
    · rw [State.settle_enterAbsent, State.leg_mapPorts, State.roleExpired, leg_holdEvent, State.vacateLegs_role_leg]
      rfl
    · rw [State.settle_enterAbsent, State.privacy_mapPorts, State.roleExpired, privacy_holdEvent, State.vacateLegs_role_privacy]
      rfl
    · rw [State.settle_enterAbsent, heldPods_mapPorts]
      exact hchange.heldPods fun p => by rw [State.vacateLegs_role_pod]
    · rw [State.port_settle_enterAbsent s q hs, Port.refreshed_lostAt]
      rfl
    · rw [State.settle_enterAbsent]
      exact hchange.mapPorts_frame _ (RoomChange.vacateLegs s _)
end

section
/-! GAIN (R5, R12), EXCLUDE (R11), and the reads of IDENT, the room, the ports and a parameter (R13, R161, R162). -/

namespace Sys2Proof.Machine

/-! ### The turn of a request whose effects leave a settled state (R151) -/

section
variable {s t : State} {q : PortId} {f : RequestFrame} {rest : List RequestFrame} {row : RequestRow} {request : Request} {role : Role}

theorem AtTurn.takeTurn_settled {a : Answer} (h : AtTurn s q f rest) (hj : JoinedAs s q role) (hrow : f.row = row)
    (ht : t.settled) (ho : request q f (s.headTaken q rest) = .ok (a, t.headTaken q rest)) :
    takeTurn row request q s = t.answered q rest ⟨a.status, f.code, a.payload⟩ := by
  rw [h.takeTurn_ok hj hrow ho, State.settle_answered, ht]

/-- A pod's fields that the end of an event does not see may change at will. -/
theorem State.settled_modPod (h : s.settled) (p : PodId) {g : Pod → Pod} (hg : ∀ pod, (g pod).settling = pod.settling) :
    (s.modPod p g).settled := by
  refine State.settled_congr h (fun k => ?_) (by simp [State.modPod]) (by simp [State.modPod]) (fun k => by simp [State.talks, State.modPod])
    fun k => by simp [State.gateOf, State.modPod]
  rw [State.pod_modPod]
  split
  · exact hg _
  · rfl

theorem State.settled_modLeg (h : s.settled) (m : LegId) (g : Leg → Leg) : (s.modLeg m g).settled :=
  State.settled_of_rooms h rfl rfl rfl rfl

theorem State.modPod_headTaken (s : State) (q : PortId) (rest : List RequestFrame) (p : PodId) (g : Pod → Pod) :
    (s.headTaken q rest).modPod p g = (s.modPod p g).headTaken q rest := State.mapPods_headTaken ..

theorem State.modLeg_headTaken (s : State) (q : PortId) (rest : List RequestFrame) (m : LegId) (g : Leg → Leg) :
    (s.headTaken q rest).modLeg m g = (s.modLeg m g).headTaken q rest := State.mapLegs_headTaken ..

end

/-! ### GAIN (R5, R12) -/

theorem exec_gainTrim (q : PortId) (s : State) : exec (.gainTrim q) s = .next (takeTurn .gainTrim requestGainTrim q s) := rfl
theorem exec_gainVolume (q : PortId) (s : State) : exec (.gainVolume q) s = .next (takeTurn .gainVolume requestGainVolume q s) := rfl
theorem exec_gainLegGain (q : PortId) (s : State) :
    exec (.gainLegGain q) s = .next (takeTurn .gainLegGain requestGainLegGain q s) := rfl

theorem row_gainTrim (operands : List Byte) : (goodFrame 0x30 (0x00 :: operands)).row = .gainTrim := rfl
theorem row_gainVolume (operands : List Byte) : (goodFrame 0x30 (0x01 :: operands)).row = .gainVolume := rfl
theorem row_gainLegGain (operands : List Byte) : (goodFrame 0x30 (0x02 :: operands)).row = .gainLegGain := rfl

section
variable {s : State} {q : PortId} {kind index : Byte} {value : List Byte} {roles : List Role}

/-- A GAIN of a kind that Table 12-2 names, from a role that may send it, passes its form check (R4). -/
theorem gainChecks_pass (hkind : kind.toNat ≤ 2) (hvalue : value.length = 3) (hroles : s.roleIn q roles = true) (k : Outcome) :
    gainChecks q (kind :: index :: value) s roles k = k := by
  have hcode : (gainKindOfCode kind.toNat).isSome = true := by
    generalize kind.toNat = n at hkind
    interval_cases n <;> rfl
  have hnumber : number [kind] = kind.toNat := by simp [number]
  simp [gainChecks, ensure, hvalue, hnumber, hcode, hroles]

/-- A GAIN on a pod gives it the clamped value (R5, R12). -/
theorem gainPod_of_address {p : PodId} (hp : index.toNat = addressOf p) (bound : Nat) (set : Nat → Pod → Pod) :
    gainPod (kind :: index :: value) s bound set =
      answerApplied (min bound (number value) == number value) ([kind, index] ++ bigEndian 3 (min bound (number value)))
        (s.modPod p (set (min bound (number value)))) := by
  have hnumber : number [index] = addressOf p := by simp [number, hp]
  simp [gainPod, hnumber, gainPayload]

/-- The reply of a GAIN (R5). -/
def gainReply (kind index : Byte) (bound v : Nat) : Reply :=
  ⟨if v ≤ bound then .done else .clamped, 0x30, [kind, index] ++ bigEndian 3 (min bound v)⟩

theorem gainReply_eq (kind index : Byte) (bound v : Nat) :
    (⟨doneIf (min bound v == v), 0x30, [kind, index] ++ bigEndian 3 (min bound v)⟩ : Reply) = gainReply kind index bound v := by
  have hclamp : min bound v = v ↔ v ≤ bound := min_eq_right_iff
  simp only [gainReply, doneIf_beq, hclamp]

/-- The turn of a GAIN on a pod, whose field the end of an event does not see (R5, R12). -/
theorem takeTurn_gainPod {rest : List RequestFrame} {row : RequestRow} {request : Request} {role : Role} {p : PodId} {bound : Nat}
    {set : Nat → Pod → Pod} (h : AtTurn s q (goodFrame 0x30 (kind :: index :: value)) rest) (hj : JoinedAs s q role)
    (hrow : (goodFrame 0x30 (kind :: index :: value)).row = row) (hset : ∀ v pod, (set v pod).settling = pod.settling)
    (hp : index.toNat = addressOf p)
    (hrequest : ∀ u : State, JoinedAs u q role → request q (goodFrame 0x30 (kind :: index :: value)) u =
      gainPod (kind :: index :: value) u bound set) :
    takeTurn row request q s =
      (s.modPod p (set (min bound (number value)))).answered q rest (gainReply kind index bound (number value)) := by
  have ho := (hrequest _ (hj.headTaken rest)).trans (gainPod_of_address hp bound set)
  rw [State.modPod_headTaken] at ho
  rw [h.takeTurn_settled hj hrow (State.settled_modPod h.settled p (hset _)) ho, ← gainReply_eq]
  rfl

end

end Sys2Proof.Machine

open Sys2Proof Sys2Proof.Machine

/-- Settles O24: the turns of GAIN on a pod's trim, on its volume and on a leg's gain. -/
theorem gainSetsOneItem : Obligations.GainSetsOneItem := by
  intro s q role index value rest hvalue hj
  refine ⟨fun p hp hroom => ?_, fun m hm hview h => ?_⟩
  · subst hroom
    have hpasses (kind : Byte) (hkind : kind.toNat ≤ 2) (u : State) (hu : JoinedAs u q .room) (k : Outcome) :
        gainChecks q (kind :: index :: value) u [.room] k = k := gainChecks_pass hkind hvalue (by rw [hu.roleIn]; rfl) k
    refine ⟨fun h => ?_, fun h => ?_⟩
    · rw [exec_gainTrim, takeTurn_gainPod (bound := maxTrim) (set := fun v pod => pod.setTrim v) h hj (row_gainTrim _)
        (fun _ _ => rfl) hp fun u hu => hpasses 0x00 (by decide) u hu _]
      rfl
    · rw [exec_gainVolume, takeTurn_gainPod (bound := unity) (set := fun v pod => { pod with volume := v }) h hj
        (row_gainVolume _) (fun _ _ => rfl) hp fun u hu => hpasses 0x01 (by decide) u hu _]
      rfl
  · have hindex : number [index] = m.val := by simp [number, hm]
    have ho : requestGainLegGain q (goodFrame 0x30 (0x02 :: index :: value)) (s.headTaken q rest) =
        answerApplied (min maxTrim (number value) == number value) ([0x02, index] ++ bigEndian 3 (min maxTrim (number value)))
          ((s.headTaken q rest).modLeg m fun leg => { leg with gain := min maxTrim (number value) }) := by
      refine (gainChecks_pass (by decide) hvalue ((hj.headTaken rest).roleIn_callRoom hview) _).trans ?_
      simp [goodFrame, hindex, gainPayload]
    rw [State.modLeg_headTaken] at ho
    rw [exec_gainLegGain, AtTurn.takeTurn_settled h hj (row_gainLegGain _) (State.settled_modLeg h.settled m _) ho]
    exact congrArg _ (congrArg _ (gainReply_eq ..))
end

section
/-! EXCLUDE (R11), and the reads of IDENT, the room, the ports and a parameter (R13, R161, R162). -/

namespace Sys2Proof.Machine

/-! ### EXCLUDE (R11) -/

theorem exec_exclude (q : PortId) (s : State) : exec (.exclude q) s = .next (takeTurn .exclude requestExclude q s) := rfl

theorem row_exclude (operands : List Byte) : (goodFrame 0x33 operands).row = .exclude := rfl

theorem PodSet.has_withSelf (x : PodSet) (p i : PodId) : PodSet.has (withSelf x p) i = (decide (i = p) || PodSet.has x i) := by
  have hshift : (1#24 <<< p.val).getLsbD i.val = decide (i = p) := by
    revert p i
    decide
  rw [PodSet.has, withSelf, BitVec.getLsbD_or, hshift, Bool.or_comm, PodSet.has]

/-- The applied set of an EXCLUDE: the pods named, and the pod itself (R5, R11). -/
theorem testBit_excludeSet (word : Nat) (p : PodId) (i : Nat) :
    (podSetWord (withSelf (podsNamed word) p)).testBit i = (decide (i = addressOf p) || (word.testBit i && namesPod i)) := by
  by_cases hi : ∃ k, addressOf k = i
  · obtain ⟨k, rfl⟩ := hi
    have hsame : addressOf k = addressOf p ↔ k = p := by simp [addressOf, Fin.ext_iff]
    have hnames : namesPod (addressOf k) = true := by simp [namesPod, allPods]
    rw [podSetWord_testBit_addressOf, PodSet.has_withSelf, PodSet.has_podsNamed, hnames, Bool.and_true]
    simp only [hsame]
  · have hno : ∀ k, addressOf k ≠ i := fun k hk => hi ⟨k, hk⟩
    have hnames : namesPod i = false := by simp [namesPod, hno]
    rw [podSetWord_testBit_of_no_pod _ hno, hnames, Bool.and_false, Bool.or_false, decide_eq_false fun h => hno p h.symm]

/-- What EXCLUDE does once its checks are passed (R11). -/
theorem requestExclude_ok {s : State} {q : PortId} {p : PodId} {a : Byte} {set : List Byte} (hj : JoinedAs s q .room)
    (ha : a.toNat = addressOf p) (hmin : 1 ≤ set.length) (hmax : set.length ≤ 4) :
    let x := withSelf (podsNamed (number set)) p
    requestExclude q (goodFrame 0x33 (a :: set)) s =
      answerApplied (podSetWord x == number set) (a :: bigEndian 4 (podSetWord x)) (s.modPod p fun pod => { pod with excl := x }) := by
  have hnumber : number [a] = addressOf p := by simp [number, ha]
  have hroles : s.roleIn q [.room] = true := by rw [hj.roleIn]; rfl
  simp [requestExclude, goodFrame, ensure, isSetLength_of_le hmin hmax, hroles, hnumber]

theorem byteOf_addressOf (p : PodId) : (byteOf (addressOf p)).toNat = addressOf p := by
  revert p
  decide

/-! ### Reads (R13, R161, R162) -/

theorem exec_ident (q : PortId) (s : State) : exec (.ident q) s = .next (takeTurn .ident requestIdent q s) := rfl
theorem exec_readRoom (q : PortId) (s : State) : exec (.readRoom q) s = .next (takeTurn .readRoom requestReadRoom q s) := rfl
theorem exec_readPorts (q : PortId) (s : State) : exec (.readPorts q) s = .next (takeTurn .readPorts requestReadPorts q s) := rfl
theorem exec_tuneQuery (q : PortId) (s : State) : exec (.tuneQuery q) s = .next (takeTurn .tuneQuery requestTuneQuery q s) := rfl

theorem row_ident (operands : List Byte) : (goodFrame 0x06 operands).row = .ident := rfl
theorem row_readRoom (operands : List Byte) : (goodFrame 0x46 operands).row = .readRoom := rfl
theorem row_readPorts (operands : List Byte) : (goodFrame 0x43 operands).row = .readPorts := rfl
theorem row_tuneQuery (id : Byte) : (goodFrame 0x31 [id]).row = .tuneQuery := rfl

section
variable {s : State} {q : PortId} {role : Role} {rest : List RequestFrame}

/-- What IDENT returns (R162, Table 12-8). -/
def State.identBytes (s : State) (q : PortId) : List Byte :=
  [0x09, 0x64, 0x01, byteOf q.val, (s.port q).state.code, roleCode (s.port q).role, byteOf s.tuning.presence]

theorem requestIdent_eq (s : State) (q : PortId) : requestIdent q (goodFrame 0x06 []) s = answerDone (s.identBytes q) s := rfl

theorem State.identBytes_headTaken (s : State) (q : PortId) (rest : List RequestFrame) :
    (s.headTaken q rest).identBytes q = s.identBytes q := by
  simp [State.identBytes, State.headTaken]

theorem requestIdent_length {operands : List Byte} (h : operands ≠ []) :
    requestIdent q (goodFrame 0x06 operands) s = refuse .length := by
  simp [requestIdent, goodFrame, ensure, h]

/-- The turn of a frame that changes nothing, from a port in any state. -/
theorem AtTurn.takeTurn_read {f : RequestFrame} {row : RequestRow} {request : Request} {payload : List Byte} (h : AtTurn s q f rest)
    (hrow : f.row = row) (ho : outcomeOf row request q f (s.headTaken q rest) = answerDone payload (s.headTaken q rest)) :
    takeTurn row request q s = s.answered q rest ⟨.done, f.code, payload⟩ := by
  rw [h.takeTurn_executed hrow ho, State.settle_answered, h.settled]

theorem requestReadRoom_ok (hj : JoinedAs s q role) : requestReadRoom q (goodFrame 0x46 []) s = answerDone s.roomBytes s := by
  simp [requestReadRoom, goodFrame, ensure, hj.roleIn_all]

theorem State.roomBytes_headTaken (s : State) (q : PortId) (rest : List RequestFrame) :
    (s.headTaken q rest).roomBytes = s.roomBytes := by
  have hsync : (s.headTaken q rest).sync = s.sync := State.sync_mapPorts ..
  rw [State.roomBytes, State.privacy_headTaken, State.talkers_headTaken, State.installer_headTaken, hsync, State.roomBytes]

/-- What READ_PORTS returns (R161, Table 12-7). -/
def State.portBytes (s : State) : List Byte := allPorts.flatMap fun k => (s.port k).bytes

theorem requestReadPorts_ok (hj : JoinedAs s q role) : requestReadPorts q (goodFrame 0x43 []) s = answerDone s.portBytes s := by
  simp [requestReadPorts, goodFrame, ensure, hj.roleIn_all, State.portBytes]

theorem State.portBytes_headTaken (s : State) (q : PortId) (rest : List RequestFrame) :
    (s.headTaken q rest).portBytes = s.portBytes := by
  have hbytes (k : PortId) : ((s.headTaken q rest).port k).bytes = (s.port k).bytes := by
    by_cases hk : k = q <;> simp [State.headTaken, hk, Port.bytes]
  simp only [State.portBytes, hbytes]

/-- The query form of TUNE returns the parameter's value (R13). -/
theorem requestTuneQuery_ok {id : Byte} {x : Param} (hj : JoinedAs s q role) (hx : paramOfId id.toNat = some x) :
    requestTuneQuery q (goodFrame 0x31 [id]) s = answerDone (id :: bigEndian 3 (s.tuning.get x)) s := by
  have hnumber : number [id] = id.toNat := by simp [number]
  simp [requestTuneQuery, goodFrame, ensure, hj.roleIn_all, hnumber, hx]

end

end Sys2Proof.Machine

open Sys2Proof Sys2Proof.Machine

/-- Settles O30: the turn of EXCLUDE, with the applied set read bit by bit. -/
theorem excludeReplacesTheSet : Obligations.ExcludeReplacesTheSet := by
  intro s q p a set rest hj ha hmin hmax h
  refine ⟨withSelf (podsNamed (number set)) p, podSetWord (withSelf (podsNamed (number set)) p), fun i => ?_, fun i => ?_, ?_⟩
  · rw [PodSet.has_withSelf, PodSet.has_podsNamed]
  · exact testBit_excludeSet (number set) p i
  · have ho := requestExclude_ok (hj.headTaken rest) ha hmin hmax
    dsimp only at ho
    rw [State.modPod_headTaken] at ho
    have hsettled : (s.modPod p fun pod => { pod with excl := withSelf (podsNamed (number set)) p }).settled :=
      State.settled_modPod h.settled p fun _ => rfl
    rw [exec_exclude, h.takeTurn_settled hj (row_exclude _) hsettled ho]
    dsimp only
    rw [doneIf_beq]
    rfl

/-- Settles O31: the turns of four reads, each of which answers what the state holds. -/
theorem identRoomPortAndTuneReads : Obligations.IdentRoomPortAndTuneReads := by
  intro s q rest
  refine ⟨fun h => ?_, fun operands hne h => ?_, fun role hj => ⟨fun h => ?_, fun h => ?_, fun id x hx h => ?_⟩⟩
  · have ho := requestIdent_eq (s.headTaken q rest) q
    rw [State.identBytes_headTaken] at ho
    have hread := h.takeTurn_read (request := requestIdent) (row_ident []) ho
    rw [exec_ident, hread]
    rfl
  · have hrefused := h.takeTurn_error (request := requestIdent) (x := .length) (row_ident operands) (requestIdent_length hne)
    rw [exec_ident, hrefused]
    rfl
  · have ho := requestReadRoom_ok (hj.headTaken rest)
    rw [State.roomBytes_headTaken] at ho
    have hexec := (exec_readRoom q s).trans (congrArg Host.Outcome.next (h.takeTurn_unchanged hj (row_readRoom []) ho))
    rw [State.roomBytes] at hexec
    cases hp : s.privacy with
    | none => exact ⟨_, _, by rw [hp] at hexec; exact hexec, rfl, rfl⟩
    | some x =>
      rw [hp] at hexec
      cases x with
      | call => exact ⟨_, _, hexec, rfl, rfl⟩
      | room => exact ⟨_, _, hexec, rfl, rfl⟩
      | start => exact ⟨_, _, hexec, rfl, rfl⟩
      | chair p => exact ⟨_, _, hexec, rfl, byteOf_addressOf p⟩
  · have ho := requestReadPorts_ok (hj.headTaken rest)
    rw [State.portBytes_headTaken] at ho
    rw [exec_readPorts, h.takeTurn_unchanged hj (row_readPorts []) ho]
    rfl
  · have ho := requestTuneQuery_ok (hj.headTaken rest) hx
    rw [State.tuning_headTaken] at ho
    rw [exec_tuneQuery, h.takeTurn_unchanged hj (row_tuneQuery id) ho]
    rfl
end

section
/-! STORE_WRITE, STORE_COMMIT and STORE_ERASE (R173, R175 to R177): their checks in order, and the operation that each begins. -/

namespace Sys2Proof.Machine

/-- The state with an operation of the store in progress. -/
def State.withStoreOp (s : State) (op : StoreOp) : State := { s with storeOp := op }

theorem State.withStoreOp_headTaken (s : State) (q : PortId) (rest : List RequestFrame) (op : StoreOp) :
    (s.headTaken q rest).withStoreOp op = (s.withStoreOp op).headTaken q rest := by
  simp only [State.headTaken, State.modPort, State.mapPorts, State.withStoreOp, State.port]

theorem State.settled_withStoreOp {s : State} (h : s.settled) (op : StoreOp) : (s.withStoreOp op).settled :=
  State.settled_of_rooms h rfl rfl rfl rfl

theorem beginOp_eq (op : StoreOp) (payload : List Byte) (s : State) : beginOp op payload s = .ok (⟨.started, payload⟩, s.withStoreOp op) := rfl

theorem State.committed_headTaken (s : State) (q : PortId) (rest : List RequestFrame) (x : Nat) :
    (s.headTaken q rest).committed x = s.committed x := by
  simp [State.committed]

section
variable {s : State} {q : PortId} {rest : List RequestFrame} {f : RequestFrame} {row : RequestRow} {request : Request}

/-- The turn of a request that begins an operation of the store (R173). -/
theorem AtTurn.takeTurn_beginOp {role : Role} {op : StoreOp} {payload : List Byte} (h : AtTurn s q f rest) (hj : JoinedAs s q role)
    (hrow : f.row = row) (ho : request q f (s.headTaken q rest) = beginOp op payload (s.headTaken q rest)) :
    takeTurn row request q s = (s.withStoreOp op).answered q rest ⟨.started, f.code, payload⟩ := by
  rw [beginOp_eq, State.withStoreOp_headTaken] at ho
  rw [h.takeTurn_settled hj hrow (State.settled_withStoreOp h.settled op) ho]

theorem JoinedAs.roleIn_room (hj : JoinedAs s q .room) : s.roleIn q [.room] = true := by
  rw [hj.roleIn]
  rfl

end

theorem exec_storeWrite (q : PortId) (s : State) : exec (.storeWrite q) s = .next (takeTurn .storeWrite requestStoreWrite q s) := rfl
theorem exec_storeCommit (q : PortId) (s : State) : exec (.storeCommit q) s = .next (takeTurn .storeCommit requestStoreCommit q s) := rfl
theorem exec_storeErase (q : PortId) (s : State) : exec (.storeErase q) s = .next (takeTurn .storeErase requestStoreErase q s) := rfl

theorem row_storeWrite (operands : List Byte) : (goodFrame 0x51 operands).row = .storeWrite := rfl
theorem row_storeCommit (operands : List Byte) : (goodFrame 0x52 operands).row = .storeCommit := rfl
theorem row_storeErase (operands : List Byte) : (goodFrame 0x53 operands).row = .storeErase := rfl

/-- The bytes of a STORE_WRITE that fall within the address's page, and their number (R175). -/
theorem take_pageRest (data : List Byte) (n : Nat) :
    data.take n = data.take (min data.length n) ∧ (data.take n).length = min data.length n := by
  refine ⟨?_, by rw [List.length_take, Nat.min_comm]⟩
  rw [List.take_eq_take_iff]
  omega

section
variable {s : State} {q : PortId} (hj : JoinedAs s q .room)
include hj

/-- The checks of STORE_WRITE from ROOM, in the order of Table 11-2 (R175). -/
theorem requestStoreWrite_room {address data : List Byte} (haddress : address.length = 2) (hmin : 1 ≤ data.length)
    (hmax : data.length ≤ 16) :
    let a := number address
    let accepted := min data.length (16 - a % 16)
    requestStoreWrite q (goodFrame 0x51 (address ++ data)) s =
      if a < 1024 then
        if s.storeOp = .idle then
          if s.committed (sectionOf a) then refuse .protected_
          else beginOp (.writing a (data.take accepted)) (address ++ [byteOf accepted]) s
        else refuse .storeBusy
      else refuse .range := by
  intro a accepted
  have hlow : 3 ≤ address.length + data.length := by omega
  have hhigh : address.length + data.length ≤ 18 := by omega
  obtain ⟨htake, hlength⟩ := take_pageRest data (16 - a % 16)
  have hpage : pageSize - number address % pageSize = 16 - a % 16 := rfl
  simp only [requestStoreWrite, goodFrame, ensure, List.length_append, hlow, hhigh, hj.roleIn_room, List.take_left' haddress,
    List.drop_left' haddress, decide_true, Bool.and_true, if_true, hpage, hlength]
  rw [htake]
  simp only [decide_eq_true_eq, beq_iff_eq, Bool.not_eq_true']
  rcases Bool.eq_false_or_eq_true (s.committed (sectionOf (number address))) with hc | hc <;> simp only [a, hc] <;> rfl

/-- The checks of STORE_COMMIT from ROOM, in order (R176). -/
theorem requestStoreCommit_room (x : Byte) : requestStoreCommit q (goodFrame 0x52 [x]) s =
    if x.toNat ≤ 7 then
      if s.storeOp = .idle then
        if s.committed x.toNat then answerDone [x] s else beginOp (.committing x.toNat) [x] s
      else refuse .storeBusy
    else refuse .range := by
  have hnumber : number [x] = x.toNat := by simp [number]
  simp [requestStoreCommit, goodFrame, ensure, hj.roleIn_room, hnumber, maxSection]

/-- The checks of STORE_ERASE from ROOM, in order (R177). -/
theorem requestStoreErase_room (x : Byte) : requestStoreErase q (goodFrame 0x53 [x]) s =
    if x.toNat ≤ 7 then
      if s.installer then
        if s.storeOp = .idle then beginOp (.erasing x.toNat (firstBlock x.toNat)) [x] s else refuse .storeBusy
      else refuse .notInstaller
    else refuse .range := by
  have hnumber : number [x] = x.toNat := by simp [number]
  simp [requestStoreErase, goodFrame, ensure, hj.roleIn_room, hnumber, maxSection]

end

end Sys2Proof.Machine

open Sys2Proof Sys2Proof.Machine

/-- Settles O36: the checks of each request in order, and the turn of one that passes them. -/
theorem storeOperationsBegin : Obligations.StoreOperationsBegin := by
  intro s q rest hj
  have hhead := hj.headTaken rest
  refine ⟨fun address data haddress hmin hmax h => ?_, fun x h => ?_, fun x h => ?_⟩
  · have ho := requestStoreWrite_room hhead haddress hmin hmax
    dsimp only at ho
    rw [State.storeOp_headTaken, State.committed_headTaken] at ho
    have hrow := row_storeWrite (address ++ data)
    rw [exec_storeWrite]
    refine ⟨fun hrange => ?_, fun hrange hbusy => ?_, fun hrange hidle hcommitted => ?_, fun hrange hidle hblank => ?_⟩
    · rw [if_neg (Nat.not_lt.2 hrange)] at ho
      exact congrArg _ (h.takeTurn_refused hj hrow ho)
    · rw [if_pos hrange, if_neg hbusy] at ho
      exact congrArg _ (h.takeTurn_refused hj hrow ho)
    · rw [if_pos hrange, if_pos hidle, State.committed, if_pos hcommitted] at ho
      exact congrArg _ (h.takeTurn_refused hj hrow ho)
    · rw [if_pos hrange, if_pos hidle, State.committed, hblank, if_neg Bool.false_ne_true] at ho
      exact congrArg _ (h.takeTurn_beginOp hj hrow ho)
  · have ho := requestStoreCommit_room hhead x
    rw [State.storeOp_headTaken, State.committed_headTaken] at ho
    have hrow := row_storeCommit [x]
    rw [exec_storeCommit]
    refine ⟨fun hrange => ?_, fun hrange hbusy => ?_, fun hrange hidle hcommitted => ?_, fun hrange hidle hblank => ?_⟩
    · rw [if_neg (Nat.not_le.2 hrange)] at ho
      exact congrArg _ (h.takeTurn_refused hj hrow ho)
    · rw [if_pos hrange, if_neg hbusy] at ho
      exact congrArg _ (h.takeTurn_refused hj hrow ho)
    · rw [if_pos hrange, if_pos hidle, State.committed, if_pos hcommitted] at ho
      exact congrArg _ (h.takeTurn_unchanged hj hrow ho)
    · rw [if_pos hrange, if_pos hidle, State.committed, hblank, if_neg Bool.false_ne_true] at ho
      exact congrArg _ (h.takeTurn_beginOp hj hrow ho)
  · have ho := requestStoreErase_room hhead x
    rw [State.storeOp_headTaken, State.installer_headTaken] at ho
    have hrow := row_storeErase [x]
    rw [exec_storeErase]
    refine ⟨fun hrange => ?_, fun hrange hmode => ?_, fun hrange hmode hbusy => ?_, fun hrange hmode hidle => ?_⟩
    · rw [if_neg (Nat.not_le.2 hrange)] at ho
      exact congrArg _ (h.takeTurn_refused hj hrow ho)
    · rw [if_pos hrange, hmode, if_neg Bool.false_ne_true] at ho
      exact congrArg _ (h.takeTurn_refused hj hrow ho)
    · rw [if_pos hrange, if_pos hmode, if_neg hbusy] at ho
      exact congrArg _ (h.takeTurn_refused hj hrow ho)
    · rw [if_pos hrange, if_pos hmode, if_pos hidle] at ho
      exact congrArg _ (h.takeTurn_beginOp hj hrow ho)
end

section
/-! The ends of the store's operations (R165, R167, R173, R175 to R178). -/

namespace Sys2Proof.Machine

/-- The end of an operation in a state whose rooms stand settled: IDLE with its result, and STORE (R173). -/
theorem State.settle_endOp {s u : State} (hs : s.settled) (hpods : u.pods = s.pods) (hports : u.ports = s.ports)
    (hprivacy : u.privacy = s.privacy) (htalkers : u.talkers = s.talkers) (r : StoreResult) :
    (u.endOp r).settle =
      { u with storeOp := .idle, lastResult := r, ports := (s.noticed Category.store.bit).ports } := by
  have hended : ({ u with storeOp := .idle, lastResult := r } : State).settled :=
    State.settled_of_rooms hs hpods hports hprivacy htalkers
  rw [State.endOp, State.settle_raise, hended, State.noticed_eq,
    State.ports_noticed_congr (t := { u with storeOp := .idle, lastResult := r }) (u := s) Category.store.bit hports]

/-- The state with other bytes and another commit map in the store. -/
def State.withStored (s : State) (store : Memory) (commitMap : BitVec 8) : State := { s with store := store, commitMap := commitMap }

theorem State.settle_endOp_withStored {s : State} (hs : s.settled) (store : Memory) (commitMap : BitVec 8) (r : StoreResult) :
    ((s.withStored store commitMap).endOp r).settle =
      { s with
        store := store, commitMap := commitMap, storeOp := .idle, lastResult := r
        ports := (s.noticed Category.store.bit).ports } :=
  State.settle_endOp (u := s.withStored store commitMap) hs rfl rfl rfl rfl r

/-- What a timeout changes beside the operation's end: torn bytes, the latch, and the completion to be discarded (R178; log 14). -/
def State.timedOut (s : State) : State :=
  { s with
    store := s.tornStore, storeTimeout := true, freeCount := s.freeCount + 1
    lateStores := s.lateStores + (!s.storeOp.erases).toNat, lateBlocks := s.lateBlocks + s.storeOp.erases.toNat }

theorem exec_operationTimeout_of_busy {s : State} (h : s.storeOp ≠ .idle) :
    exec .operationTimeout s = .next ((s.timedOut.endOp .failed).raiseIf (!s.storeTimeout) .faults).settle := if_neg h

theorem State.settle_timedOut {s : State} (hs : s.settled) :
    ((s.timedOut.endOp .failed).raiseIf (!s.storeTimeout) .faults).settle =
      { s.timedOut with
        storeOp := .idle, lastResult := .failed
        ports := (s.noticed (Category.store.bit ||| onlyIf (!s.storeTimeout) .faults)).ports } := by
  have hended := State.settle_endOp (u := s.timedOut) hs rfl rfl rfl rfl .failed
  rw [State.settle_raiseIf, State.noticed_eq, hended, BitVec.or_comm, ← State.noticed_noticed]
  exact congrArg (fun ports => { s.timedOut with storeOp := .idle, lastResult := .failed, ports := ports })
    (State.ports_noticed_congr _ rfl)

theorem StoreOp.erases_iff (op : StoreOp) : op.erases = true ↔ ∃ x block, op = .erasing x block := by
  cases op <;> simp [StoreOp.erases]

section
variable {s : State} {x block address : Nat} {data : List Byte}

theorem exec_storeCompletion_writing (hstate : s.storeOp = .writing address data) (hlate : s.lateStores = 0) :
    exec .storeCompletion s = .next ((s.withStored (Memory.writeMany s.store address data) s.commitMap).endOp .ok).settle := by
  simp [exec, execStoreCompletion, hlate, hstate, finish, State.withStored]

theorem exec_storeCompletion_committing (hstate : s.storeOp = .committing x) (hlate : s.lateStores = 0) :
    exec .storeCompletion s = .next ((s.withStored s.store (commitSection s.commitMap x)).endOp .ok).settle := by
  simp [exec, execStoreCompletion, hlate, hstate, finish, State.withStored]

theorem exec_eraseBlockCompletion_last (hstate : s.storeOp = .erasing x block) (hlate : s.lateBlocks = 0) (hlast : ¬ block < lastBlock x) :
    exec .eraseBlockCompletion s =
      .next ((s.withStored (eraseBlock s.store block) (blankSection s.commitMap x)).endOp .ok).settle := by
  simp [exec, execEraseBlockCompletion, hlate, hstate, hlast, finish, State.withStored]

theorem exec_eraseBlockCompletion_more (hstate : s.storeOp = .erasing x block) (hlate : s.lateBlocks = 0) (hmore : block < lastBlock x) :
    exec .eraseBlockCompletion s = .next { s with store := eraseBlock s.store block, storeOp := .erasing x (block + 1) } := by
  simp [exec, execEraseBlockCompletion, hlate, hstate, hmore]

end

end Sys2Proof.Machine

open Sys2Proof Sys2Proof.Machine

/-- Settles O37: each end of an operation, with the bytes of the store that it leaves. -/
theorem storeOperationsEnd : Obligations.StoreOperationsEnd := by
  intro s hs ⟨hwf, hop⟩
  refine ⟨fun address data hstate hlate => ?_, fun x hstate hlate => ?_, fun x block hstate hlate => ?_,
    fun n => ⟨fun hlate => ?_, fun hlate => ?_⟩, fun hbusy => ?_⟩
  · have hexec := exec_storeCompletion_writing hstate hlate
    rw [State.settle_endOp_withStored hs] at hexec
    rw [hstate] at hop
    exact ⟨_, hexec, fun a => Memory.read_writeMany a hwf hop, rfl⟩
  · rw [exec_storeCompletion_committing hstate hlate, State.settle_endOp_withStored hs]
    rfl
  · rw [hstate] at hop
    obtain ⟨-, -, hblock, -⟩ := hop
    have hbytes (a : Nat) : (eraseBlock s.store block).read a = if a / 64 = block then 0xFF else s.byteAt a :=
      read_eraseBlock a hwf (hblock.trans_lt (lastBlock_lt x))
    by_cases hmore : block < lastBlock x
    · have hexec := exec_eraseBlockCompletion_more hstate hlate hmore
      generalize eraseBlock s.store block = erased at hbytes hexec
      exact ⟨_, hexec, hbytes, fun _ => rfl, fun h => absurd h hmore.ne⟩
    · have hexec := exec_eraseBlockCompletion_last hstate hlate hmore
      rw [State.settle_endOp_withStored hs] at hexec
      generalize eraseBlock s.store block = erased at hbytes hexec
      exact ⟨_, hexec, hbytes, fun h => absurd h hmore, fun _ => rfl⟩
  · simp [exec, execStoreCompletion, hlate]
  · simp [exec, execEraseBlockCompletion, hlate]
  · have hexec := exec_operationTimeout_of_busy hbusy
    rw [State.settle_timedOut hs] at hexec
    refine ⟨_, hexec, fun herases => ?_, fun hother => ?_, rfl⟩
    · have h := (StoreOp.erases_iff s.storeOp).2 herases
      simp [State.timedOut, h]
    · have h : s.storeOp.erases = false := by rwa [← Bool.not_eq_true, StoreOp.erases_iff]
      simp [State.timedOut, h]
end

section
/-! HOLD_ON and HOLD_OFF on pods and on leg directions (R24 to R27). -/

namespace Sys2Proof.Machine

/-! ### The requester's role, placed or lifted (R25 to R27) -/

/-- A pod hold set with a role placed or lifted (R25, R27). -/
def HoldSet.setRole (on : Bool) (h : HoldSet) (role : Role) : HoldSet := { h with
  room := if role = .room then on else h.room
  call := if role = .call then on else h.call }

/-- A leg hold set with a role placed or lifted (R26, R27). -/
def LegHolds.setRole (on : Bool) (h : LegHolds) (role : Role) : LegHolds :=
  ⟨if role = .room then on else h.room, if role = .call then on else h.call⟩

theorem HoldSet.setRole_eq (on : Bool) (h : HoldSet) (role : Role) :
    (if on then HoldSet.addRole else HoldSet.removeRole) h (some role) = h.setRole on role := by
  cases on <;> cases role <;> rfl

theorem LegHolds.setRole_eq (on : Bool) (h : LegHolds) (role : Role) :
    (if on then LegHolds.addRole else LegHolds.removeRole) h (some role) = h.setRole on role := by
  cases on <;> cases role <;> rfl

/-- The command byte, the row and the command of HOLD_ON and HOLD_OFF. -/
def holdCode (on : Bool) : Byte := if on then 0x10 else 0x11

/-- A hold request from CALL or ROOM whose kind names a target passes its checks (R24). -/
theorem holdChecks_pass {s : State} {q : PortId} {role : Role} {kind : Byte} {set : List Byte} (hj : JoinedAs s q role)
    (hrole : role ≠ .view) (hmin : 1 ≤ set.length) (hmax : set.length ≤ 4) (hkind : kind.toNat ≤ 2) (k : Outcome) :
    holdChecks q (kind :: set) s k = k := by
  have hcode : (holdTargetOfCode kind.toNat).isSome = true := by
    generalize kind.toNat = n at hkind
    interval_cases n <;> rfl
  have hnumber : number [kind] = kind.toNat := by simp [number]
  simp [holdChecks, ensure, isSetLength_of_le hmin hmax, hnumber, hcode, hj.roleIn_callRoom hrole]

/-! ### Pods (R25, R27) -/

theorem exec_holdOnPods (q : PortId) (s : State) : exec (.holdOnPods q) s = .next (takeTurn .holdOnPods requestHoldOnPods q s) := rfl
theorem exec_holdOnLegs (q : PortId) (s : State) : exec (.holdOnLegs q) s = .next (takeTurn .holdOnLegs requestHoldOnLegs q s) := rfl
theorem exec_holdOff (q : PortId) (s : State) : exec (.holdOff q) s = .next (takeTurn .holdOff requestHoldOff q s) := rfl

theorem row_holdOnPods (set : List Byte) : (goodFrame 0x10 (0x00 :: set)).row = .holdOnPods := rfl
theorem row_holdOnLegs (send : Bool) (set : List Byte) :
    (goodFrame 0x10 ((if send then 0x01 else 0x02) :: set)).row = .holdOnLegs := by cases send <;> rfl
theorem row_holdOff (operands : List Byte) : (goodFrame 0x11 operands).row = .holdOff := rfl

section
variable {s : State} {q : PortId} {role : Role} {set : List Byte} {rest : List RequestFrame}

/-- What a hold request on pods does once its checks are passed (R24, R25, R27). -/
theorem holdPods_eq (on : Bool) (hj : JoinedAs s q role) :
    holdPods q (0x00 :: set) s (if on then HoldSet.addRole else HoldSet.removeRole) =
      answerApplied (podSetWord (s.listedNamed (number set)) == number set)
        (0x00 :: bigEndian 4 (podSetWord (s.listedNamed (number set))))
        (takeHoldChange s (s.changePodHolds (s.listedNamed (number set)) fun h => h.setRole on role)) := by
  simp [holdPods, hj.role, HoldSet.setRole_eq]

/-- The turn of a hold request on pods (R25, R27). -/
theorem takeTurn_holdPods {row : RequestRow} {request : Request} (on : Bool) (hj : JoinedAs s q role)
    (h : AtTurn s q (goodFrame (holdCode on) (0x00 :: set)) rest) (hrow : (goodFrame (holdCode on) (0x00 :: set)).row = row)
    (hrequest : ∀ u : State, JoinedAs u q role → request q (goodFrame (holdCode on) (0x00 :: set)) u =
      holdPods q (0x00 :: set) u (if on then HoldSet.addRole else HoldSet.removeRole)) :
    let applied := s.listedNamed (number set)
    takeTurn row request q s = (holdEvent s (s.changePodHolds applied fun h => h.setRole on role)).answered q rest
      ⟨if podSetWord applied = number set then .done else .clamped, holdCode on, 0x00 :: bigEndian 4 (podSetWord applied)⟩ := by
  intro applied
  have ho := (hrequest _ (hj.headTaken rest)).trans (holdPods_eq on (hj.headTaken rest))
  rw [State.listedNamed_headTaken, State.changePodHolds_headTaken] at ho
  rw [h.takeTurn_holdEvent hj hrow ho, doneIf_beq]
  rfl

/-- The turn of HOLD_ON or HOLD_OFF on pods (R25, R27). -/
theorem exec_podHolds_atTurn (on : Bool) (hj : JoinedAs s q role) (hrole : role ≠ .view) (hmin : 1 ≤ set.length)
    (hmax : set.length ≤ 4) (h : AtTurn s q (goodFrame (holdCode on) (0x00 :: set)) rest) :
    let applied := s.listedNamed (number set)
    exec (if on then .holdOnPods q else .holdOff q) s =
      .next ((holdEvent s (s.changePodHolds applied fun h => h.setRole on role)).answered q rest
        ⟨if podSetWord applied = number set then .done else .clamped, holdCode on, 0x00 :: bigEndian 4 (podSetWord applied)⟩) := by
  have hpass (u : State) (hu : JoinedAs u q role) (k : Outcome) : holdChecks q (0x00 :: set) u k = k :=
    holdChecks_pass hu hrole hmin hmax (by decide) k
  cases on with
  | true => exact congrArg _ (takeTurn_holdPods true hj h (row_holdOnPods set) fun u hu => hpass u hu _)
  | false => exact congrArg _ (takeTurn_holdPods false hj h (row_holdOff _) fun u hu => hpass u hu _)

end

/-! ### Leg directions (R26, R27) -/

/-- The kind byte of a leg direction (Table 12-2). -/
def directionByte (send : Bool) : Byte := if send then 0x01 else 0x02

section
variable (s : State) (q : PortId) (rest : List RequestFrame) (applied : BitVec 4) (send : Bool) (f : LegHolds → LegHolds)

theorem State.changeLegHolds_headTaken :
    (s.headTaken q rest).changeLegHolds applied send f = (s.changeLegHolds applied send f).headTaken q rest :=
  State.mapLegs_headTaken ..

theorem HoldChange.changeLegHolds : HoldChange s (s.changeLegHolds applied send f) := ⟨fun _ => rfl, rfl, rfl⟩

theorem RoomChange.changeLegHolds : RoomChange s (s.changeLegHolds applied send f) := RoomChange.mapLegs s _

theorem State.pod_changeLegHolds (p : PodId) : (s.changeLegHolds applied send f).pod p = s.pod p := State.pod_mapLegs ..

theorem State.muted_changeLegHolds (p : PodId) : (s.changeLegHolds applied send f).muted p = s.muted p :=
  State.muted_congr (congrArg Pod.listed (State.pod_changeLegHolds ..)) (congrArg Pod.holds (State.pod_changeLegHolds ..)) rfl

end

section
variable {s : State} {q : PortId} {role : Role} {set : List Byte} {rest : List RequestFrame}

/-- What a hold request on a leg direction does once its checks are passed (R24, R26, R27). -/
theorem holdLegs_eq (on send : Bool) (hj : JoinedAs s q role) :
    holdLegs q (directionByte send :: set) s (if on then LegHolds.addRole else LegHolds.removeRole) =
      answerApplied ((legsNamed (number set)).toNat == number set)
        (directionByte send :: bigEndian 4 (legsNamed (number set)).toNat)
        (takeHoldChange s (s.changeLegHolds (legsNamed (number set)) send fun h => h.setRole on role)) := by
  have hsend : (holdTargetOfCode (number [directionByte send]) == some .send) = send := by cases send <;> rfl
  simp [holdLegs, hj.role, LegHolds.setRole_eq, hsend]

/-- An event at MA that leaves every channel muted or unmuted as it was raises HOLDS at most (R21, R22). -/
theorem takeHoldChange_of_muted {after : State} (hmuted : ∀ p, after.muted p = s.muted p) (hunmuted : ∀ p, after.unmuted p = s.unmuted p) :
    takeHoldChange s after = after.raiseIf (holdsDiffer s after) .holds := by
  have hnever : ∀ p, (s.unmuted p && s.muted p) = false ∧ (s.muted p && s.unmuted p) = false := fun p => by
    rw [State.unmuted_eq]
    cases s.muted p <;> simp
  have hpods : after.mapPods (fun _ pod => pod) = after := (State.mapPods_eq_self_iff _ _).2 fun _ => rfl
  simp [takeHoldChange, hmuted, hunmuted, hnever, hpods, State.raiseIf]

/-- A change of leg hold sets is an event at MA that moves no pod and no entry (R21, R26). -/
theorem holdEvent_changeLegHolds (hs : s.settled) (applied : BitVec 4) (send : Bool) (f : LegHolds → LegHolds) :
    (holdEvent s (s.changeLegHolds applied send f)).pods = s.pods ∧
      (holdEvent s (s.changeLegHolds applied send f)).talkers = s.talkers := by
  have hsettled : (s.changeLegHolds applied send f).settled := State.settled_of_rooms hs rfl rfl rfl rfl
  have hpod := s.pod_changeLegHolds applied send f
  have hunmuted (p : PodId) : (s.changeLegHolds applied send f).unmuted p = s.unmuted p :=
    State.unmuted_congr (by rw [hpod]) (by rw [hpod]) rfl
  rw [holdEvent, takeHoldChange_of_muted (s.muted_changeLegHolds applied send f) hunmuted, State.settle_raiseIf, hsettled,
    State.pods_noticed, State.talkers_noticed]
  exact ⟨rfl, rfl⟩

/-- The turn of a hold request on a leg direction (R26, R27). -/
theorem takeTurn_holdLegs {row : RequestRow} {request : Request} (on send : Bool) (hj : JoinedAs s q role)
    (h : AtTurn s q (goodFrame (holdCode on) (directionByte send :: set)) rest)
    (hrow : (goodFrame (holdCode on) (directionByte send :: set)).row = row)
    (hrequest : ∀ u : State, JoinedAs u q role → request q (goodFrame (holdCode on) (directionByte send :: set)) u =
      holdLegs q (directionByte send :: set) u (if on then LegHolds.addRole else LegHolds.removeRole)) :
    let applied := legsNamed (number set)
    takeTurn row request q s = (holdEvent s (s.changeLegHolds applied send fun h => h.setRole on role)).answered q rest
      ⟨if applied.toNat = number set then .done else .clamped, holdCode on, directionByte send :: bigEndian 4 applied.toNat⟩ := by
  intro applied
  have ho := (hrequest _ (hj.headTaken rest)).trans (holdLegs_eq on send (hj.headTaken rest))
  rw [State.changeLegHolds_headTaken] at ho
  rw [h.takeTurn_holdEvent hj hrow ho, doneIf_beq]
  rfl

/-- The turn of HOLD_ON or HOLD_OFF on a leg direction (R26, R27). -/
theorem exec_legHolds_atTurn (on send : Bool) (hj : JoinedAs s q role) (hrole : role ≠ .view) (hmin : 1 ≤ set.length)
    (hmax : set.length ≤ 4) (h : AtTurn s q (goodFrame (holdCode on) (directionByte send :: set)) rest) :
    let applied := legsNamed (number set)
    exec (if on then .holdOnLegs q else .holdOff q) s =
      .next ((holdEvent s (s.changeLegHolds applied send fun h => h.setRole on role)).answered q rest
        ⟨if applied.toNat = number set then .done else .clamped, holdCode on, directionByte send :: bigEndian 4 applied.toNat⟩) := by
  have hpass (u : State) (hu : JoinedAs u q role) (k : Outcome) : holdChecks q (directionByte send :: set) u k = k :=
    holdChecks_pass hu hrole hmin hmax (by cases send <;> decide) k
  cases on with
  | true => exact congrArg _ (takeTurn_holdLegs true send hj h (row_holdOnLegs send set) fun u hu => hpass u hu _)
  | false =>
    have hoff : holdTargetOfCode (number [directionByte send]) ≠ some .pods := by cases send <;> decide
    exact congrArg _ (takeTurn_holdLegs false send hj h (row_holdOff _) fun u hu =>
      (hpass u hu _).trans (if_neg hoff))

end

end Sys2Proof.Machine

open Sys2Proof Sys2Proof.Machine

/-- Settles O17: the hold event of the hold sets that the request leaves on the listed pods named. -/
theorem podHoldRequests : Obligations.PodHoldRequests := by
  intro s q role on set rest hj hrole hmin hmax code h
  have hchange := HoldChange.changePodHolds s (s.listedNamed (number set)) fun h => h.setRole on role
  refine ⟨podSetWord (s.listedNamed (number set)), s.keeps_listedNamed _, _, exec_podHolds_atTurn on hj hrole hmin hmax h,
    fun p => ?_, hchange.heldPods_answered q rest _ fun p => ?_, ?_⟩
  · rw [State.pod_answered, holds_holdEvent, State.pod_changePodHolds, podSetWord_testBit_addressOf]
    rfl
  · rw [State.pod_changePodHolds]
  · exact hchange.answered_frame q rest _ h.settled (s.changePodHolds_eq _ _)
/-- Settles O18: the hold event of the leg hold sets that the request leaves, which moves no pod and no entry. -/
theorem legHoldRequests : Obligations.LegHoldRequests := by
  intro s q role on send set rest hj hrole hmin hmax code kind h
  have happlied : (legsNamed (number set)).toNat = number set % 16 := BitVec.toNat_ofNat ..
  have hchange := HoldChange.changeLegHolds s (legsNamed (number set)) send fun h => h.setRole on role
  obtain ⟨hpods, htalkers⟩ := holdEvent_changeLegHolds h.settled (legsNamed (number set)) send fun h => h.setRole on role
  have hframe := fun r => hchange.answered_frame q rest r h.settled
    (base := { s with legs := (s.changeLegHolds (legsNamed (number set)) send fun h => h.setRole on role).legs }) rfl
  rw [← happlied]
  refine ⟨_, exec_legHolds_atTurn on send hj hrole hmin hmax h, fun m => ?_, ?_⟩
  · rw [State.leg_answered, leg_holdEvent, State.changeLegHolds, State.leg_mapLegs]
    rfl
  · refine (hframe _).trans ?_
    rw [State.pods_answered, talkersLeft_answered, ← hchange.talkers_eq, hpods, htalkers, State.legs_answered, legs_holdEvent]
    rfl
end

section
/-! What a change of the room tables leaves (R5 to R7, R13), and the set form of TUNE (R13, R15). -/

namespace Sys2Proof.Machine

/-! ### The turn of a request at the room tables (R151) -/

/-- The state that a change of the room tables leaves once its turn ends: `u` holds the change, `cs` its notices. -/
def State.tableTurn (u : State) (cs : CategorySet) (q : PortId) (rest : List RequestFrame) (r : Reply) : State :=
  (u.settle.noticed cs).answered q rest r

section
variable {s u raised : State} {q : PortId} {f : RequestFrame} {rest : List RequestFrame} {row : RequestRow} {request : Request}
  {role : Role} {cs : CategorySet} {r : Reply}

theorem AtTurn.takeTurn_tables {a : Answer} (h : AtTurn s q f rest) (hj : JoinedAs s q role) (hrow : f.row = row)
    (hraised : raised.settle = u.settle.noticed cs)
    (ho : request q f (s.headTaken q rest) = .ok (a, raised.headTaken q rest)) :
    takeTurn row request q s = u.tableTurn cs q rest ⟨a.status, f.code, a.payload⟩ := by
  rw [h.takeTurn_ok hj hrow ho, State.settle_answered, hraised, State.tableTurn]

/-- Every pod record after a table change: what the change made of it, and what follows. -/
theorem State.pod_tableTurn (u : State) (p : PodId) :
    (u.tableTurn cs q rest r).pod p = (u.pod p).following (u.tableTurn cs q rest r) p := by
  simp [State.tableTurn, Pod.following]

theorem State.talkers_tableTurn (u : State) : (u.tableTurn cs q rest r).talkers = u.talkers := by simp [State.tableTurn]
theorem State.tuning_tableTurn (u : State) : (u.tableTurn cs q rest r).tuning = u.tuning := by
  simp [State.tableTurn, State.answered, State.noticed]
theorem State.slot_tableTurn (u : State) : (u.tableTurn cs q rest r).slot = u.slot := by
  simp [State.tableTurn, State.answered, State.noticed]
theorem State.lastPolled_tableTurn (u : State) : (u.tableTurn cs q rest r).lastPolled = u.lastPolled := by
  simp [State.tableTurn, State.answered, State.noticed]

/-- The ports after a table change: its notices, and the answer (R151, R158). -/
theorem State.ports_tableTurn (hs : s.settled) (hu : u.ports = s.ports) :
    (u.tableTurn cs q rest r).ports = ((s.noticed cs).answered q rest r).ports :=
  State.ports_answered_congr q rest r (State.ports_noticed_congr cs (State.ports_settle hs hu))

/-- A table change and its turn change pods and ports alone beside what the change replaced. -/
theorem State.tableTurn_frame (u : State) : u.tableTurn cs q rest r =
    { u with pods := (u.tableTurn cs q rest r).pods, ports := (u.tableTurn cs q rest r).ports } := by
  simp only [State.tableTurn, State.answered, State.noticed, State.modPort, State.mapPorts, State.settle, State.mapPods]

/-- A pod record of a settled state that a change leaves in place, when what follows stays (R56, R58, R68). -/
theorem State.following_of_settled {t : State} (hs : s.settled) (p : PodId) (hgate : t.gateOf p = s.gateOf p)
    (hpattern : t.patternOf p = s.patternOf p) : (s.pod p).following t p = s.pod p := by
  obtain ⟨hg, hc, hp⟩ := ((State.settled_iff s).1 hs).1 p
  simp only [Pod.following, hgate, hpattern, ← hg, ← hp]
  exact congrArg (fun copy => { s.pod p with flagCopy := copy }) hc.symm

end

/-! ### TUNE (R13, R15) -/

theorem exec_tuneSet (q : PortId) (s : State) : exec (.tuneSet q) s = .next (takeTurn .tuneSet requestTuneSet q s) := rfl

theorem row_tuneSet (id : Byte) {value : List Byte} (h : value.length = 3) : (goodFrame 0x31 (id :: value)).row = .tuneSet := by
  obtain ⟨a, b, c, rfl⟩ := List.length_eq_three.1 h
  rfl

theorem Tuning.set_get (t : Tuning) (x : Param) : t.set x (t.get x) = t := by
  cases x <;> simp [Tuning.set, Tuning.get]

/-- A list within its limit is not cut. -/
theorem limitCut_of_le {limit : Nat} {l : List Talker} (h : l.length ≤ limit) (fuel : Nat) : limitCut limit fuel l = l := by
  cases fuel with
  | zero => rfl
  | succ fuel => rw [limitCut, if_pos h]

/-- A parameter that keeps its value leaves everything as it stands (R13). -/
theorem State.tuned_get {s : State} (h : s.talkersSound) (x : Param) : s.tuned x (s.tuning.get x) = s := by
  obtain ⟨-, hlimit, -, -, -, hlast⟩ := h
  have htalkers : s.talkersTuned x = s.talkers := by
    cases x with
    | openLimit => exact limitCut_of_le hlimit _
    | lastOn =>
      simp only [State.talkersTuned]
      split
      · rename_i hoff
        exact List.filter_eq_self.2 fun e he => by rw [hlast hoff e he]; rfl
      · rfl
    | _ => rfl
  rw [State.tuned, Tuning.set_get]
  exact congrArg (fun l => { s with talkers := l }) htalkers

/-- TUNE of a value, new or not: the value, the list it leaves, and TALKERS if an entry left (R13, R15). -/
theorem State.tune_eq {s : State} (h : s.talkersSound) (x : Param) (v : Nat) :
    s.tune x v = (s.tuned x v).raiseIf (decide ((s.tuned x v).talkers ≠ s.talkers)) .talkers := by
  have hsub : (s.tuned x v).talkers.Sublist s.talkers := State.talkersTuned_sublist _ x h.1
  have hleft : (s.tuned x v).talkers.length < s.talkers.length ↔ (s.tuned x v).talkers ≠ s.talkers :=
    ⟨fun hlt he => hlt.ne (congrArg List.length he), fun hne => hsub.length_le.lt_of_ne fun he => hne (hsub.eq_of_length he)⟩
  by_cases hv : s.tuning.get x = v
  · subst hv
    rw [State.tuned_get h, decide_eq_false (not_not.2 rfl), State.tune, if_pos rfl]
    rfl
  · rw [State.tune_of_ne hv]
    simp only [hleft]

theorem State.talkersTuned_congr {s t : State} (x : Param) (htuning : t.tuning = s.tuning) (htalkers : t.talkers = s.talkers) :
    t.talkersTuned x = s.talkersTuned x := by
  cases x <;> simp only [State.talkersTuned, htuning, htalkers]

theorem State.talkersTuned_of_ne {s : State} {x : Param} (hlimit : x ≠ .openLimit) (hlast : x ≠ .lastOn) : s.talkersTuned x = s.talkers := by
  cases x with
  | openLimit => exact absurd rfl hlimit
  | lastOn => exact absurd rfl hlast
  | _ => rfl

/-- The state with other tuning values. -/
def State.withTuning (s : State) (t : Tuning) : State := { s with tuning := t }

theorem State.tuned_eq (s : State) (x : Param) (v : Nat) :
    s.tuned x v = (s.withTuning (s.tuning.set x v)).withTalkers ((s.withTuning (s.tuning.set x v)).talkersTuned x) := rfl

theorem State.tuned_headTaken (s : State) (q : PortId) (rest : List RequestFrame) (x : Param) (v : Nat) :
    (s.headTaken q rest).tuned x v = (s.tuned x v).headTaken q rest := by
  have htuning (t : Tuning) : (s.headTaken q rest).withTuning t = (s.withTuning t).headTaken q rest := by
    simp only [State.headTaken, State.modPort, State.mapPorts, State.withTuning, State.port]
  have htalkers (t : State) (l : List Talker) : (t.headTaken q rest).withTalkers l = (t.withTalkers l).headTaken q rest :=
    t.withTalkers_headTaken q rest l
  rw [State.tuned_eq, State.tuning_headTaken, htuning, htalkers, State.talkersTuned_congr x (State.tuning_headTaken ..)
    (State.talkers_headTaken ..), State.tuned_eq]

theorem State.talkersSound_headTaken {s : State} (h : s.talkersSound) (q : PortId) (rest : List RequestFrame) :
    (s.headTaken q rest).talkersSound := by
  simpa [State.talkersSound] using h

/-- What the set form of TUNE does once its checks are passed (R5, R13). -/
theorem requestTuneSet_ok {s : State} {q : PortId} {id : Byte} {x : Param} {value : List Byte} (hj : JoinedAs s q .room)
    (hx : paramOfId id.toNat = some x) (hvalue : value.length = 3) :
    requestTuneSet q (goodFrame 0x31 (id :: value)) s =
      answerApplied (x.clamp (number value) == number value) (id :: bigEndian 3 (x.clamp (number value)))
        (s.tune x (x.clamp (number value))) := by
  have hnumber : number [id] = id.toNat := by simp [number]
  simp [requestTuneSet, goodFrame, ensure, hvalue, hj.roleIn_room, hnumber, hx]

end Sys2Proof.Machine

open Sys2Proof Sys2Proof.Machine

/-- Settles O26: the turn of TUNE, with the list that the parameter's value leaves. -/
theorem tuneSetsOneParameter : Obligations.TuneSetsOneParameter := by
  intro s q id x value rest hsound hvalue hj hx h
  have ho := requestTuneSet_ok (hj.headTaken rest) hx hvalue
  rw [State.tune_eq (State.talkersSound_headTaken hsound q rest), State.tuned_headTaken, State.raiseIf_headTaken] at ho
  have hturn := h.takeTurn_tables hj (row_tuneSet id hvalue) (State.settle_raiseIf ..) ho
  have hclamp : (if x = .flush then number value % 32 else min x.range.2 (max x.range.1 (number value))) = x.clamp (number value) := by
    cases x <;> rfl
  have happlied := (x.clamp_range (number value)).2
  have hget := Tuning.get_set_self s.tuning x happlied
  simp only [doneIf_beq, State.talkers_headTaken] at hturn
  simp only [leaves, hclamp]
  generalize x.clamp (number value) = v at *
  refine ⟨_, (exec_tuneSet q s).trans (congrArg Host.Outcome.next hturn), fun y => ?_, fun hlimit hlast => ?_, fun hlast => ?_,
    fun hlimit => ?_, fun p => State.pod_tableTurn _ p, ?_⟩
  · rw [State.tuning_tableTurn]
    split
    · rename_i hy
      exact hy ▸ hget
    · rename_i hy
      exact Tuning.get_set_ne s.tuning v hy
  · rw [State.talkers_tableTurn]
    exact State.talkersTuned_of_ne hlimit hlast
  · subst hlast
    have hvalue : (s.tuning.set .lastOn v).lastOn = v := rfl
    have hfilter : (s.talkers.filter fun e => decide (e.state ≠ .last)) = s.talkers.filter fun e => !e.isLast :=
      List.filter_congr fun e _ => Bool.eq_iff_iff.2 (by simp [Talker.isLast])
    rw [State.talkers_tableTurn, hfilter]
    rfl
  · subst hlimit
    rw [State.talkers_tableTurn]
    exact limitCut_spec hsound.1 (Nat.le_add_left ..)
  · rw [State.tuning_tableTurn, State.talkers_tableTurn]
    refine (State.tableTurn_frame _).trans ?_
    rw [State.ports_tableTurn (u := s.tuned x v) h.settled rfl]
    rfl
end

section
/-! Turns whose request begins from a state whose head frame has left: what a table change and its turn leave (R151). -/

namespace Sys2Proof.Machine

/-- What an executed request leaves once its reply has joined and its event has ended (R151, R160). -/
def State.turnEnded (raised : State) (q : PortId) (r : Reply) : State := (raised.queueReply q r).settle

section
variable {s u raised : State} {q : PortId} {f : RequestFrame} {rest : List RequestFrame} {row : RequestRow} {request : Request}
  {role : Role} {cs : CategorySet}

theorem AtTurn.takeTurn_ended {a : Answer} (h : AtTurn s q f rest) (hj : JoinedAs s q role) (hrow : f.row = row)
    (ho : request q f (s.headTaken q rest) = .ok (a, raised)) :
    takeTurn row request q s = raised.turnEnded q ⟨a.status, f.code, a.payload⟩ := h.takeTurn_ok hj hrow ho

/-- A port's answer joins the notices that its event has raised, whatever the order (R151, R158). -/
theorem Port.queued_noticed (port : Port) (cs : CategorySet) (rest : List RequestFrame) (r : Reply) :
    { ({ port with requests := rest } : Port).noticed cs with
      replies := port.replies ++ [r], attention := true } = (port.noticed cs).answered rest r := by
  have hjoined : ({ port with requests := rest } : Port).joined = port.joined := rfl
  unfold Port.noticed
  rw [hjoined]
  split <;> rfl

/-- A port whose reply has joined, with the attention line that follows it (R151, R160). -/
def Port.replied (port : Port) (r : Reply) : Port := { port with replies := port.replies ++ [r], attention := true }

/-- A reply may join before the event ends or after. -/
theorem State.turnEnded_eq (raised : State) (q : PortId) (r : Reply) :
    raised.turnEnded q r = raised.settle.modPort q fun port => port.replied r := by
  simp only [State.turnEnded, State.queueReply, State.settle, State.modPort, State.mapPorts_mapPorts, State.mapPods_mapPorts,
    State.gateOf_mapPorts, State.patternOf_mapPorts]
  refine State.mapPorts_congr fun k => ?_
  by_cases hk : k = q
  · simp [hk, Port.replied, Port.wantsAttention]
  · simp [hk]

variable (hs : s.settled) (hports : u.ports = (s.headTaken q rest).ports) (hraised : raised.settle = u.settle.noticed cs) (r : Reply)
include hraised

/-- Every pod record after a table change: what the change made of it, and what follows. -/
theorem State.pod_turnEnded (p : PodId) : (raised.turnEnded q r).pod p = (u.pod p).following (raised.turnEnded q r) p := by
  have hgate : (raised.turnEnded q r).gateOf p = u.gateOf p := by
    rw [State.turnEnded_eq, hraised, State.modPort, State.gateOf_mapPorts, State.gateOf_noticed, State.gateOf_settle]
  have hpattern : (raised.turnEnded q r).patternOf p = u.patternOf p := by
    rw [State.turnEnded_eq, hraised, State.modPort, State.patternOf_mapPorts, State.patternOf_noticed, State.patternOf_settle]
  rw [Pod.following, hgate, hpattern, State.turnEnded_eq, hraised, State.modPort, State.pod_mapPorts, State.pod_noticed, State.pod_settle]

/-- A table change and its turn change pods and ports alone beside what the change replaced. -/
theorem State.turnEnded_frame : raised.turnEnded q r =
    { u with pods := (raised.turnEnded q r).pods, ports := (raised.turnEnded q r).ports } := by
  rw [State.turnEnded_eq, hraised]
  simp only [State.noticed, State.modPort, State.mapPorts, State.settle, State.mapPods]

include hs hports

/-- The ports after a table change: its notices, and the answer (R151, R158). -/
theorem State.ports_turnEnded : (raised.turnEnded q r).ports = ((s.noticed cs).answered q rest r).ports := by
  refine State.ports_ext fun k => ?_
  have hport : u.settle.port k = ((s.headTaken q rest).port k).refreshed := by
    rw [State.port_settle, State.port, hports]
    rfl
  rw [State.turnEnded_eq, hraised, State.answered, State.port_modPort, State.port_modPort, State.noticed, State.noticed,
    State.port_mapPorts, State.port_mapPorts, hport, State.headTaken, State.port_modPort]
  have hrefreshed := State.refreshed_of_settled hs k
  by_cases hk : k = q
  · have hhead : ({ s.port k with requests := rest } : Port).refreshed = { s.port k with requests := rest } :=
      congrArg (fun port : Port => { port with requests := rest }) hrefreshed
    have hreplies : (({ s.port k with requests := rest } : Port).noticed cs).replies = (s.port k).replies := by
      unfold Port.noticed
      split <;> rfl
    simp only [hk, if_true] at hhead hreplies ⊢
    rw [hhead, Port.replied, hreplies]
    exact Port.queued_noticed _ cs rest r
  · simp only [hk, if_false, hrefreshed]

end

end Sys2Proof.Machine
end

section
/-! ROSTER LIST and ROSTER UNLIST (R6, R7, R131). -/

namespace Sys2Proof.Machine

/-! ### The checks and the applied set of both forms (R4, R5) -/

theorem exec_rosterList (q : PortId) (s : State) : exec (.rosterList q) s = .next (takeTurn .rosterList requestRosterList q s) := rfl
theorem exec_rosterUnlist (q : PortId) (s : State) :
    exec (.rosterUnlist q) s = .next (takeTurn .rosterUnlist requestRosterUnlist q s) := rfl

theorem row_rosterList (set : List Byte) : (goodFrame 0x32 (0x00 :: set)).row = .rosterList := rfl
theorem row_rosterUnlist (set : List Byte) : (goodFrame 0x32 (0x01 :: set)).row = .rosterUnlist := rfl

/-- LIST and UNLIST with a pod set, from ROOM, pass the checks of R4. -/
theorem rosterChecks_list {s : State} {q : PortId} {op : Byte} {set : List Byte} (hj : JoinedAs s q .room) (hop : op = 0x00 ∨ op = 0x01)
    (hmin : 1 ≤ set.length) (hmax : set.length ≤ 4) (k : Outcome) : rosterChecks q (op :: set) s k = k := by
  rcases hop with rfl | rfl <;>
    simp [rosterChecks, ensure, rosterLengthFits, rosterOpOfCode, number, isSetLength_of_le hmin hmax, hj.roleIn_room]

theorem keeps_podsNamed (word : Nat) : Keeps word (podSetWord (podsNamed word)) namesPod :=
  keeps_podSetWord (fun p => by simp [namesPod, allPods]) fun i hi => by simp [namesPod, hi]

/-- What ROSTER LIST does once its checks are passed (R6). -/
theorem requestRosterList_ok {s : State} {q : PortId} {set : List Byte} (hj : JoinedAs s q .room) (hmin : 1 ≤ set.length)
    (hmax : set.length ≤ 4) : requestRosterList q (goodFrame 0x32 (0x00 :: set)) s =
      answerApplied (podSetWord (podsNamed (number set)) == number set) (0x00 :: bigEndian 4 (podSetWord (podsNamed (number set))))
        (s.listPods (podsNamed (number set))) := rosterChecks_list hj (.inl rfl) hmin hmax _

/-- What ROSTER UNLIST does once its checks are passed (R7). -/
theorem requestRosterUnlist_ok {s : State} {q : PortId} {set : List Byte} (hj : JoinedAs s q .room) (hmin : 1 ≤ set.length)
    (hmax : set.length ≤ 4) : requestRosterUnlist q (goodFrame 0x32 (0x01 :: set)) s =
      answerApplied (podSetWord (podsNamed (number set)) == number set) (0x01 :: bigEndian 4 (podSetWord (podsNamed (number set))))
        (s.unlistPods (podsNamed (number set))) := rosterChecks_list hj (.inr rfl) hmin hmax _

/-! ### What unlisting leaves (R7) -/

section
variable (s : State) (gone : PodId → Bool)

/-- The notices of an unlisting (R7, R158, R165; log 13). -/
def State.unlistNotices : CategorySet :=
  onlyIf (allPods.any gone) .pods ||| onlyIf (allPods.any fun p => gone p && (s.pod p).holds.any) .holds |||
    onlyIf ((s.talkers.any fun e => gone e.pod) || allPods.any fun p => gone p && (s.pod p).mutedTalk) .talkers |||
    onlyIf (allPods.any fun p => gone p && ((s.pod p).podLost.reportNotice false || (s.pod p).podClip.reportNotice false ||
      (s.pod p).podLocal.reportNotice false)) .faults

theorem State.settle_unlistPods (named : PodSet) :
    let gone := fun p => PodSet.has named p && (s.pod p).listed
    (s.unlistPods named).settle = (s.unlisted gone).settle.noticed (s.unlistNotices gone) := by
  intro gone
  have hraised : s.unlistPods named = ((((s.unlisted gone).raiseIf (allPods.any gone) .pods).raiseIf
      (allPods.any fun p => gone p && (s.pod p).holds.any) .holds).raiseIf
      ((s.talkers.any fun e => gone e.pod) || allPods.any fun p => gone p && (s.pod p).mutedTalk) .talkers).raiseIf
      (allPods.any fun p => gone p && ((s.pod p).podLost.reportNotice false || (s.pod p).podClip.reportNotice false ||
        (s.pod p).podLocal.reportNotice false)) .faults := rfl
  rw [hraised]
  simp only [State.settle_raiseIf, State.noticed_noticed]
  congr 1
  unfold State.unlistNotices
  ac_rfl

theorem State.lastPolled_unlisted : (s.unlisted gone).lastPolled =
    if allPods.any gone && !(s.unlisted gone).anyListed then 0 else s.lastPolled := by
  have hlisted : (s.unlisted gone).anyListed = (s.unlistRecords gone).anyListed := by
    unfold State.unlisted
    split
    · simp only [State.anyListed, State.pod_unlistLink]
    · rfl
  have hsame : (s.unlistRecords gone).lastPolled = s.lastPolled := by simp [State.unlistRecords]
  rw [hlisted]
  unfold State.unlisted
  split
  · rename_i hany
    rw [State.lastPolled_unlistLink, hany, Bool.true_and, hsame]
    cases (s.unlistRecords gone).anyListed <;> simp
  · rename_i hnone
    rw [Bool.eq_false_iff.2 hnone, Bool.false_and, if_neg Bool.false_ne_true, hsame]

theorem State.talkers_filter_ne_iff (l : List Talker) (f : Talker → Bool) : decide (l ≠ l.filter fun e => !f e) = l.any f := by
  rw [Bool.eq_iff_iff]
  simp [eq_comm (a := l), List.filter_eq_self]

end

/-! ### What follows stays where the list keeps a channel's entry (R56, R68) -/

/-- A pod record of a settled state stays as it is when what follows from the state around it stays. -/
theorem State.following_eq_self {s t : State} (hs : s.settled) (p : PodId) (hgate : t.gateOf p = s.gateOf p)
    (htalks : t.talks p = s.talks p) (hpod : t.pod p = (s.pod p).following t p) (hprivacy : t.privacy = s.privacy) :
    t.pod p = s.pod p := by
  have hlisted : (t.pod p).listed = (s.pod p).listed := by rw [hpod]; rfl
  have hholds : (t.pod p).holds = (s.pod p).holds := by rw [hpod]; rfl
  have hflag : (t.pod p).mutedTalk = (s.pod p).mutedTalk := by rw [hpod]; rfl
  have henv : (t.pod p).muteEnv = (s.pod p).muteEnv := by rw [hpod]; rfl
  refine hpod.trans (State.following_of_settled hs p hgate ?_)
  simp only [State.patternOf, State.muted_congr hlisted hholds hprivacy, htalks, hlisted, hholds, hflag, henv, hprivacy]

/-- Entries of other channels that leave the list change nothing for a channel. -/
theorem State.gateOf_talks_filter {s t : State} {gone : PodId → Bool} (h : t.talkers = s.talkers.filter fun e => !gone e.pod) {p : PodId}
    (hp : gone p = false) : t.gateOf p = s.gateOf p ∧ t.talks p = s.talks p := by
  have hother (e : Talker) (he : (e.pod == p) = true) : (!gone e.pod) = true := by
    rw [beq_iff_eq.1 he, hp]
    rfl
  constructor
  · have hfind : (s.talkers.filter fun e => !gone e.pod).find? (fun e => e.pod == p) = s.talkers.find? fun e => e.pod == p := by
      rw [List.find?_filter]
      exact congrFun (congrArg List.find? (funext fun e => Bool.eq_iff_iff.2 (by simpa using hother e))) _
    simp only [State.gateOf, h, hfind]
  · have hany : (s.talkers.filter fun e => !gone e.pod).any (fun e => e.pod == p) = s.talkers.any fun e => e.pod == p := by
      rw [List.any_filter]
      exact congrArg _ (funext fun e => Bool.eq_iff_iff.2 (by simpa using hother e))
    simp only [State.talks, h, hany]

/-! ### The turn of UNLIST (R7) -/

section
variable {s raised : State} {q : PortId} {rest : List RequestFrame} {gone : PodId → Bool} {cs : CategorySet}
  (hs : s.settled) (hraised : raised.settle = ((s.headTaken q rest).unlisted gone).settle.noticed cs) (r : Reply)
include hraised

/-- What an UNLIST leaves beside its ports: pods, the talker list, the slot and the last-polled address (R7). -/
theorem State.unlistTurn_frame : raised.turnEnded q r = { s with
    pods := (raised.turnEnded q r).pods, ports := (raised.turnEnded q r).ports
    talkers := ((s.headTaken q rest).unlisted gone).talkers, slot := ((s.headTaken q rest).unlisted gone).slot
    lastPolled := ((s.headTaken q rest).unlisted gone).lastPolled } := by
  have hframe := State.turnEnded_frame hraised (q := q) r
  rw [State.unlisted_eq] at hframe
  exact hframe

/-- `State.unlistTurn_frame`, told by the records that the turn leaves. -/
theorem State.unlistTurn_records : raised.turnEnded q r = { s with
    pods := (raised.turnEnded q r).pods, ports := (raised.turnEnded q r).ports, talkers := (raised.turnEnded q r).talkers
    slot := (raised.turnEnded q r).slot, lastPolled := (raised.turnEnded q r).lastPolled } := by
  have hframe := State.unlistTurn_frame hraised r
  generalize raised.turnEnded q r = t at hframe ⊢
  rw [hframe]

theorem State.talkers_unlistTurn : (raised.turnEnded q r).talkers = s.talkers.filter fun e => !gone e.pod := by
  rw [State.unlistTurn_frame hraised, State.talkers_unlisted, State.talkers_headTaken]

theorem State.slot_unlistTurn : (raised.turnEnded q r).slot =
    s.slot.map fun x => if gone x.pod && !x.judged then { x with discard := true } else x := by
  rw [State.unlistTurn_frame hraised, State.slot_unlisted]
  rfl

theorem State.lastPolled_unlistTurn : (raised.turnEnded q r).lastPolled =
    if allPods.any gone && !(allPods.any fun p => ((raised.turnEnded q r).pod p).listed) then 0 else s.lastPolled := by
  have hpod := State.pod_turnEnded hraised (q := q) r
  have hlisted (p : PodId) : ((raised.turnEnded q r).pod p).listed = (((s.headTaken q rest).unlisted gone).pod p).listed := by
    rw [hpod]
    rfl
  have hlast : (raised.turnEnded q r).lastPolled = ((s.headTaken q rest).unlisted gone).lastPolled := by
    rw [State.unlistTurn_frame hraised]
  rw [hlast, State.lastPolled_unlisted, State.anyListed]
  simp only [hlisted]
  rfl

include hs

/-- A pod after an UNLIST: cleared at every block, or as it stood (R7). -/
theorem State.pod_unlistTurn (p : PodId) : (raised.turnEnded q r).pod p =
    if gone p then (s.pod p).unlist.following (raised.turnEnded q r) p else s.pod p := by
  have hpod := State.pod_turnEnded hraised (q := q) r p
  rw [State.pod_unlisted, State.pod_headTaken] at hpod
  cases hp : gone p with
  | true =>
    rw [hp] at hpod
    exact hpod
  | false =>
    rw [hp] at hpod
    have hprivacy : (raised.turnEnded q r).privacy = s.privacy := by rw [State.unlistTurn_frame hraised]
    obtain ⟨hgate, htalks⟩ := State.gateOf_talks_filter (State.talkers_unlistTurn hraised r) hp
    exact State.following_eq_self hs p hgate htalks hpod hprivacy

/-- TALKERS is raised when an entry or a flag of an unlisted pod has gone (R7). -/
theorem State.talkersMoved_unlistTurn : talkersMoved s (raised.turnEnded q r) =
    ((s.talkers.any fun e => gone e.pod) || allPods.any fun p => gone p && (s.pod p).mutedTalk) := by
  have hflag (p : PodId) : ((s.pod p).mutedTalk != ((raised.turnEnded q r).pod p).mutedTalk) = (gone p && (s.pod p).mutedTalk) := by
    rw [State.pod_unlistTurn hs hraised r p]
    cases gone p <;> cases hf : (s.pod p).mutedTalk <;> simp [Pod.following, Pod.unlist, hf]
  simp only [talkersMoved, State.talkers_unlistTurn hraised r, State.talkers_filter_ne_iff, hflag]

end

/-- The notices of an unlisting, as R7 and R165 name them. -/
theorem State.unlistNotices_eq (s t : State) (gone : PodId → Bool) (hmoved : talkersMoved s t =
      ((s.talkers.any fun e => gone e.pod) || allPods.any fun p => gone p && (s.pod p).mutedTalk)) :
    s.unlistNotices gone =
      onlyIf (allPods.any gone) .pods ||| onlyIf (allPods.any fun p => gone p && decide ((s.pod p).holds ≠ HoldSet.empty)) .holds |||
        onlyIf (talkersMoved s t) .talkers |||
        onlyIf (allPods.any fun p => gone p && ((s.pod p).podLost.latch && (s.pod p).podLost.condition ||
          (s.pod p).podClip.latch && (s.pod p).podClip.condition || (s.pod p).podLocal.latch && (s.pod p).podLocal.condition))
          .faults := by
  have hholds (p : PodId) : (s.pod p).holds.any = decide ((s.pod p).holds ≠ HoldSet.empty) := by
    rw [Bool.eq_iff_iff, HoldSet.any_iff, decide_eq_true_iff]
  simp only [State.unlistNotices, hmoved, hholds]
  rfl

theorem State.unlistNotices_headTaken (s : State) (q : PortId) (rest : List RequestFrame) (gone : PodId → Bool) :
    (s.headTaken q rest).unlistNotices gone = s.unlistNotices gone := by
  simp only [State.unlistNotices, State.pod_headTaken, State.talkers_headTaken]

end Sys2Proof.Machine

open Sys2Proof Sys2Proof.Machine

/-- Settles O28: the turn of UNLIST, with the records, the list and the link that the unlisting leaves. -/
theorem rosterUnlistClearsPods : Obligations.RosterUnlistClearsPods := by
  intro s q set rest hj hmin hmax h
  have ho := requestRosterUnlist_ok (hj.headTaken rest) hmin hmax
  have hturn := h.takeTurn_ended hj (row_rosterUnlist set) ho
  rw [doneIf_beq] at hturn
  have hraised := State.settle_unlistPods (s.headTaken q rest) (podsNamed (number set))
  simp only [State.pod_headTaken, State.unlistNotices_headTaken] at hraised
  refine ⟨podSetWord (podsNamed (number set)), keeps_podsNamed _, _, (exec_rosterUnlist q s).trans (congrArg _ hturn), ?_⟩
  simp only [podSetWord_testBit_addressOf]
  generalize (s.headTaken q rest).unlistPods (podsNamed (number set)) = raised at *
  have hports : ((s.headTaken q rest).unlisted fun p => PodSet.has (podsNamed (number set)) p && (s.pod p).listed).ports =
      (s.headTaken q rest).ports := by rw [State.unlisted_eq]
  have hmoved := State.talkersMoved_unlistTurn h.settled hraised
  refine ⟨State.pod_unlistTurn h.settled hraised _, State.talkers_unlistTurn hraised _, State.slot_unlistTurn hraised _,
    State.lastPolled_unlistTurn hraised _, ?_⟩
  have hnotices := fun r => s.unlistNotices_eq (raised.turnEnded q r)
    (fun p => PodSet.has (podsNamed (number set)) p && (s.pod p).listed) (hmoved r)
  have hframe := fun r => State.unlistTurn_records hraised r
  refine (hframe _).trans ?_
  rw [State.ports_turnEnded h.settled hports hraised, hnotices]
  rfl
end

section
/-! ROSTER LIST (R6), and the slot that a listing begins where polling had stopped (R131). -/

namespace Sys2Proof.Machine

/-! ### The slot that a listing begins (R131) -/

/-- The state with a slot begun for a pod, if there is one. -/
def State.slotBegun (t : State) : Option PodId → State
  | none => t
  | some p => t.beginSlot p

/-- The pod of the slot that a listing begins: the lowest listed one, where polling had stopped (R131). -/
def firstPolled (before after : State) : Option PodId :=
  if before.slot.isNone && !before.anyListed then allPods.find? fun p => (after.pod p).listed else none

section
variable (s t : State) (o : Option PodId) (p : PodId) (cs : CategorySet)

@[simp] theorem State.pods_slotBegun : (t.slotBegun o).pods = t.pods := by cases o <;> rfl
@[simp] theorem State.ports_slotBegun : (t.slotBegun o).ports = t.ports := by cases o <;> rfl
@[simp] theorem State.privacy_slotBegun : (t.slotBegun o).privacy = t.privacy := by cases o <;> rfl
@[simp] theorem State.talkers_slotBegun : (t.slotBegun o).talkers = t.talkers := by cases o <;> rfl
@[simp] theorem State.pod_slotBegun : (t.slotBegun o).pod p = t.pod p := by rw [State.pod, State.pods_slotBegun, State.pod]

/-- A slot begun in a state that has changed `s` at its pods and ports. -/
theorem State.slotBegun_frame {s t : State} (h : t = { s with pods := t.pods, ports := t.ports }) (o : Option PodId) :
    t.slotBegun o = { s with
      pods := (t.slotBegun o).pods, ports := (t.slotBegun o).ports, lastPolled := (t.slotBegun o).lastPolled
      slot := (t.slotBegun o).slot } := by
  generalize hu : t.slotBegun o = u
  cases o with
  | none =>
    subst hu
    rw [State.slotBegun]
    generalize t.pods = pods at h
    generalize t.ports = ports at h
    rw [h]
  | some p =>
    generalize t.pods = pods at h
    generalize t.ports = ports at h
    subst hu
    rw [h]
    rfl

theorem State.noticed_slotBegun : (t.slotBegun o).noticed cs = (t.noticed cs).slotBegun o := by
  cases o with
  | none => rfl
  | some p =>
    simp only [State.slotBegun, State.beginSlot, State.pod_noticed]
    simp only [State.noticed, State.mapPorts, State.port]

theorem State.settled_slotBegun {t : State} (h : t.settled) : (t.slotBegun o).settled := by
  refine State.settled_of_rooms h ?_ ?_ ?_ ?_ <;> simp

/-- A slot that a listing begins carries the entry that the listing leaves (R131). -/
theorem State.settle_beginFirstSlot (before after : State) :
    (beginFirstSlot before after).settle = after.settle.slotBegun (firstPolled before after) := by
  unfold beginFirstSlot firstPolled
  split
  · cases allPods.find? fun p => (after.pod p).listed with
    | none => rfl
    | some p => exact State.settled_slotBegun (some p) (State.settled_settle after)
  · rfl

end

/-! ### The turn of LIST (R6) -/

/-- The records once some pods are listed (R6). -/
def State.listRecords (s : State) (newly : PodId → Bool) : State := s.mapPods fun p pod => if newly p then pod.list else pod

/-- What a listing leaves, its slot included (R6, R131). -/
def State.listedWith (s : State) (newly : PodId → Bool) : State :=
  (s.listRecords newly).settle.slotBegun (firstPolled s (s.listRecords newly))

theorem firstPolled_congr {s t u : State} (h : ∀ p, (u.pod p).listed = (t.pod p).listed) : firstPolled s u = firstPolled s t := by
  simp only [firstPolled, h]

theorem State.settle_listPods (s : State) (named : PodSet) :
    let newly := fun p => PodSet.has named p && !(s.pod p).listed
    (s.listPods named).settle =
      (s.listedWith newly).settle.noticed (onlyIf (allPods.any newly) .pods ||| onlyIf (allPods.any newly) .holds) := by
  intro newly
  have hraised : s.listPods named = beginFirstSlot s
      (((s.listRecords newly).raiseIf (allPods.any newly) .pods).raiseIf (allPods.any newly) .holds) := rfl
  have hfirst : firstPolled s (((s.listRecords newly).raiseIf (allPods.any newly) .pods).raiseIf (allPods.any newly) .holds) =
      firstPolled s (s.listRecords newly) := firstPolled_congr fun p => by simp
  have hsettled : (s.listedWith newly).settled := State.settled_slotBegun _ (State.settled_settle _)
  rw [hraised, State.settle_beginFirstSlot, hfirst, State.settle_raiseIf, State.settle_raiseIf, State.noticed_noticed, hsettled,
    State.listedWith, State.noticed_slotBegun, BitVec.or_comm]

section
variable {s raised : State} {q : PortId} {rest : List RequestFrame} {newly : PodId → Bool} {cs : CategorySet}
  (hs : s.settled) (hraised : raised.settle = ((s.headTaken q rest).listedWith newly).settle.noticed cs) (r : Reply)
include hraised

/-- What a LIST leaves beside its ports: pods, the slot and the last-polled address (R6, R131). -/
theorem State.listTurn_frame : raised.turnEnded q r = { s with
    pods := (raised.turnEnded q r).pods, ports := (raised.turnEnded q r).ports
    lastPolled := ((s.headTaken q rest).listedWith newly).lastPolled, slot := ((s.headTaken q rest).listedWith newly).slot } := by
  have hframe := State.turnEnded_frame hraised (q := q) r
  have hlisted : (s.headTaken q rest).listedWith newly = { s.headTaken q rest with
      pods := ((s.headTaken q rest).listedWith newly).pods, ports := ((s.headTaken q rest).listedWith newly).ports
      lastPolled := ((s.headTaken q rest).listedWith newly).lastPolled, slot := ((s.headTaken q rest).listedWith newly).slot } := by
    exact State.slotBegun_frame (by simp only [State.settle, State.listRecords, State.mapPods, State.mapPorts]) _
  rw [hlisted] at hframe
  exact hframe

theorem State.pod_listTurn_settled (p : PodId) :
    (raised.turnEnded q r).pod p = ((s.headTaken q rest).listedWith newly).pod p := by
  have hsettled : ((s.headTaken q rest).listedWith newly).settled := State.settled_slotBegun _ (State.settled_settle _)
  rw [State.turnEnded_eq, hraised, State.modPort, State.pod_mapPorts, State.pod_noticed, hsettled]

theorem State.slot_listTurn : (raised.turnEnded q r).slot = ((s.headTaken q rest).listedWith newly).slot ∧
    (raised.turnEnded q r).lastPolled = ((s.headTaken q rest).listedWith newly).lastPolled := by
  rw [State.listTurn_frame hraised]
  exact ⟨rfl, rfl⟩

/-- `State.listTurn_frame`, told by the records that the turn leaves. -/
theorem State.listTurn_records : raised.turnEnded q r = { s with
    pods := (raised.turnEnded q r).pods, ports := (raised.turnEnded q r).ports
    lastPolled := (raised.turnEnded q r).lastPolled, slot := (raised.turnEnded q r).slot } := by
  have hframe := State.listTurn_frame hraised r
  generalize raised.turnEnded q r = t at hframe ⊢
  rw [hframe]

/-- The slot that a LIST begins, with the poll that carries the entry it leaves (R131). -/
theorem State.slot_listTurn_of_some {p : PodId} (hp : firstPolled (s.headTaken q rest) ((s.headTaken q rest).listRecords newly) = some p) :
    (raised.turnEnded q r).lastPolled = addressOf p ∧
      (raised.turnEnded q r).slot = some ⟨p, pollLevels p ((raised.turnEnded q r).pod p).pattern, false, false⟩ := by
  obtain ⟨hslot, hlast⟩ := State.slot_listTurn hraised r
  rw [hslot, hlast, State.pod_listTurn_settled hraised, State.listedWith, hp, State.pod_slotBegun, ← drive_pollOf]
  exact ⟨rfl, rfl⟩

theorem State.slot_listTurn_of_none (hp : firstPolled (s.headTaken q rest) ((s.headTaken q rest).listRecords newly) = none) :
    (raised.turnEnded q r).lastPolled = s.lastPolled ∧ (raised.turnEnded q r).slot = s.slot := by
  obtain ⟨hslot, hlast⟩ := State.slot_listTurn hraised r
  rw [hslot, hlast, State.listedWith, hp, State.slotBegun, State.lastPolled_settle, State.slot_settle]
  simp [State.listRecords, State.headTaken]

include hs

/-- A pod after a LIST: listed, or as it stood (R6). -/
theorem State.pod_listTurn (p : PodId) : (raised.turnEnded q r).pod p =
    if newly p then (s.pod p).list.following (raised.turnEnded q r) p else s.pod p := by
  have hpod := State.pod_turnEnded hraised (q := q) r p
  have hrecord : (((s.headTaken q rest).listedWith newly).pod p).following (raised.turnEnded q r) p =
      (if newly p then (s.pod p).list else s.pod p).following (raised.turnEnded q r) p := by
    rw [State.listedWith, State.pod_slotBegun, State.pod_settle, State.listRecords, State.pod_mapPods, State.pod_headTaken]
    rfl
  rw [hrecord] at hpod
  cases hp : newly p with
  | true =>
    rw [hp] at hpod
    exact hpod
  | false =>
    rw [hp] at hpod
    have hframe := State.listTurn_records hraised r
    have htalkers : (raised.turnEnded q r).talkers = s.talkers := by rw [hframe]
    have hprivacy : (raised.turnEnded q r).privacy = s.privacy := by rw [hframe]
    exact State.following_eq_self hs p (State.gateOf_congr p htalkers) (State.talks_congr p htalkers) hpod hprivacy

end

section
variable {s : State} {q : PortId} {rest : List RequestFrame} {newly : PodId → Bool}

theorem State.listed_listRecords (p : PodId) :
    (((s.headTaken q rest).listRecords newly).pod p).listed = (newly p || (s.pod p).listed) := by
  rw [State.listRecords, State.pod_mapPods, State.pod_headTaken]
  cases newly p <;> rfl

theorem State.firstPolled_headTaken (t : State) :
    firstPolled (s.headTaken q rest) t = if s.slot.isNone && !s.anyListed then allPods.find? fun p => (t.pod p).listed else none := by
  have hslot : (s.headTaken q rest).slot = s.slot := by simp [State.headTaken]
  have hany : (s.headTaken q rest).anyListed = s.anyListed := by simp only [State.anyListed, State.pod_headTaken]
  rw [firstPolled, hslot, hany]

/-- With polling stopped, the slot is that of the lowest pod that becomes listed (R131). -/
theorem firstPolled_of_lowest (hslot : s.slot = none) (hnone : ∀ k, (s.pod k).listed = false) {p : PodId} (hp : newly p = true)
    (hlow : ∀ k, newly k = true → p ≤ k) : firstPolled (s.headTaken q rest) ((s.headTaken q rest).listRecords newly) = some p := by
  have hany : s.anyListed = false := by simp [State.anyListed, hnone]
  rw [State.firstPolled_headTaken, hslot, hany]
  simp only [State.listed_listRecords, hnone, Bool.or_false, Option.isNone_none, Bool.not_false, Bool.and_self, if_true]
  rw [allPods, ← Fin.find?_eq_find?_finRange, Fin.find?_eq_some_iff]
  exact ⟨hp, fun k hk => by
    by_contra hnew
    exact absurd (hlow k (by simpa using hnew)) (not_le.2 hk)⟩

theorem firstPolled_of_polling (h : s.slot ≠ none ∨ (∃ k, (s.pod k).listed = true) ∨ allPods.any newly = false) :
    firstPolled (s.headTaken q rest) ((s.headTaken q rest).listRecords newly) = none := by
  rw [State.firstPolled_headTaken]
  rcases h with hslot | ⟨k, hk⟩ | hnone
  · obtain ⟨x, hx⟩ := Option.ne_none_iff_exists'.1 hslot
    simp [hx]
  · have hany : s.anyListed = true := List.any_eq_true.2 ⟨k, List.mem_finRange k, hk⟩
    simp [hany]
  · have hnever : ∀ p, newly p = false := allPods_any_eq_false (by simp [hnone])
    split
    · rename_i hstopped
      have hunlisted : s.anyListed = false := by simpa using (Bool.and_eq_true_iff.1 hstopped).2
      simp only [State.listed_listRecords, hnever, Bool.false_or]
      exact List.find?_eq_none.2 fun p hp hl => by
        have := List.any_eq_false.1 hunlisted p hp
        exact this hl
    · rfl

end

end Sys2Proof.Machine

open Sys2Proof Sys2Proof.Machine

/-- Settles O27: the turn of LIST, with the records and the slot that the listing leaves. -/
theorem rosterListAddsPods : Obligations.RosterListAddsPods := by
  intro s q set rest hj hmin hmax h
  have ho := requestRosterList_ok (hj.headTaken rest) hmin hmax
  have hturn := h.takeTurn_ended hj (row_rosterList set) ho
  rw [doneIf_beq] at hturn
  have hraised := State.settle_listPods (s.headTaken q rest) (podsNamed (number set))
  simp only [State.pod_headTaken] at hraised
  refine ⟨podSetWord (podsNamed (number set)), keeps_podsNamed _, _, (exec_rosterList q s).trans (congrArg _ hturn), ?_⟩
  simp only [podSetWord_testBit_addressOf]
  generalize (s.headTaken q rest).listPods (podsNamed (number set)) = raised at *
  have hports : ((s.headTaken q rest).listedWith fun p => PodSet.has (podsNamed (number set)) p && !(s.pod p).listed).ports =
      (s.headTaken q rest).ports := by
    rw [State.listedWith, State.ports_slotBegun]
    exact State.ports_settle (State.settled_modPort h.settled q rfl rfl) rfl
  refine ⟨State.pod_listTurn h.settled hraised _, fun p hslot hnone hp hlow => ?_, fun hpolling => ?_, ?_⟩
  · exact State.slot_listTurn_of_some hraised _ (firstPolled_of_lowest hslot hnone hp hlow)
  · exact State.slot_listTurn_of_none hraised _ (firstPolled_of_polling hpolling)
  · refine (State.listTurn_records hraised _).trans ?_
    rw [State.ports_turnEnded h.settled hports hraised]
    rfl
end

section
/-! The layouts of the read requests (Tables 12-5 to 12-8): numbers and bits in bytes, the legs, the talker list, a channel and the fault records. -/

namespace Sys2Proof.Machine

/-! ### Numbers and bits in bytes (00, "Numbering") -/

@[simp] theorem length_bigEndian (n v : Nat) : (bigEndian n v).length = n := by
  induction n with
  | zero => rfl
  | succ n ih => rw [bigEndian, List.length_cons, ih]

theorem number_append (a b : List Byte) : number (a ++ b) = number a * 256 ^ b.length + number b := by
  induction b using List.reverseRecOn with
  | nil => simp [number]
  | append_singleton b x ih =>
    simp only [number, ← List.append_assoc, List.foldl_append, List.foldl_cons, List.foldl_nil] at ih ⊢
    rw [ih, List.length_append, List.length_singleton, pow_succ]
    ring

theorem number_cons (x : Byte) (b : List Byte) : number (x :: b) = x.toNat * 256 ^ b.length + number b := by
  have h := number_append [x] b
  simpa [number] using h

theorem toNat_byteOf (v : Nat) : (byteOf v).toNat = v % 256 := BitVec.toNat_ofNat ..

/-- A number in n bytes is read back, as far as n bytes can hold it. -/
theorem number_bigEndian (n v : Nat) : number (bigEndian n v) = v % 256 ^ n := by
  induction n with
  | zero => simp [bigEndian, number, Nat.mod_one]
  | succ n ih =>
    rw [bigEndian, number_cons, ih, length_bigEndian, toNat_byteOf, pow_succ, Nat.mod_mul, Nat.mul_comm, Nat.add_comm]

theorem number_bigEndian_of_lt {n v : Nat} (h : v < 256 ^ n) : number (bigEndian n v) = v := by
  rw [number_bigEndian, Nat.mod_eq_of_lt h]

theorem number_byteOf {v : Nat} (h : v < 256) : number [byteOf v] = v := by
  simp [number, toNat_byteOf, Nat.mod_eq_of_lt h]

theorem carries_byteOfBits (bits : List Bool) : Carries (byteOfBits bits) bits := by
  intro i hi
  rw [byteOfBits, byteOf, BitVec.getLsbD_ofNat, decide_eq_true hi, Bool.true_and, numberOfBits_testBit]

/-- In a list of blocks of one length, what stands at a place of a block. -/
theorem take_drop_flatMap {α β : Type} {f : α → List β} {k : Nat} {xs : List α} (hlength : ∀ x ∈ xs, (f x).length = k) {i : Nat} {x : α}
    (hx : xs[i]? = some x) {j n : Nat} (hj : j + n ≤ k) : ((xs.flatMap f).drop (k * i + j)).take n = ((f x).drop j).take n := by
  induction xs generalizing i with
  | nil => simp at hx
  | cons y ys ih =>
    have hy : (f y).length = k := hlength y List.mem_cons_self
    cases i with
    | zero =>
      obtain rfl : y = x := by simpa using hx
      rw [List.flatMap_cons, Nat.mul_zero, Nat.zero_add, List.drop_append_of_le_length (by omega),
        List.take_append_of_le_length (by rw [List.length_drop]; omega)]
    | succ i =>
      have hblock : k * (i + 1) + j = (f y).length + (k * i + j) := by rw [hy]; ring
      rw [List.flatMap_cons, hblock, List.drop_append]
      simp only [Nat.add_sub_cancel_left, List.drop_eq_nil_of_le (Nat.le_add_right _ _), List.nil_append]
      exact ih (fun z hz => hlength z (List.mem_cons_of_mem _ hz)) (by simpa using hx)

theorem length_flatMap_blocks {α β : Type} {f : α → List β} {k : Nat} (xs : List α) (hlength : ∀ x ∈ xs, (f x).length = k) :
    (xs.flatMap f).length = k * xs.length := by
  rw [List.length_flatMap, List.map_congr_left hlength, List.map_const', List.sum_replicate, smul_eq_mul, Nat.mul_comm]

/-! ### READ_LEGS and READ_TALKERS (R85, R117) -/

theorem exec_readLegs (q : PortId) (s : State) : exec (.readLegs q) s = .next (takeTurn .readLegs requestReadLegs q s) := rfl
theorem exec_readTalkers (q : PortId) (s : State) :
    exec (.readTalkers q) s = .next (takeTurn .readTalkers requestReadTalkers q s) := rfl

theorem row_readLegs (operands : List Byte) : (goodFrame 0x42 operands).row = .readLegs := rfl
theorem row_readTalkers (operands : List Byte) : (goodFrame 0x41 operands).row = .readTalkers := rfl

theorem requestReadLegs_ok {s : State} {q : PortId} {role : Role} (hj : JoinedAs s q role) :
    requestReadLegs q (goodFrame 0x42 []) s = answerDone (allLegs.flatMap fun m => (s.leg m).bytes) s := by
  simp [requestReadLegs, goodFrame, ensure, hj.roleIn_all]

theorem requestReadTalkers_ok {s : State} {q : PortId} {role : Role} (hj : JoinedAs s q role) :
    requestReadTalkers q (goodFrame 0x41 []) s = answerDone (s.talkers.flatMap Talker.bytes) s := by
  simp [requestReadTalkers, goodFrame, ensure, hj.roleIn_all]

theorem Leg.length_bytes (leg : Leg) : leg.bytes.length = 10 := by simp [Leg.bytes]

theorem Talker.length_bytes (e : Talker) : e.bytes.length = 5 := by simp [Talker.bytes]

theorem getElem?_allLegs (m : LegId) : allLegs[m.val]? = some m := by
  simp [allLegs]

/-- The ten bytes of a leg, field by field (Table 12-7). -/
theorem Leg.bytes_fields {leg : Leg} (hgain : leg.gain ≤ maxTrim) (hreceive : leg.receiveEnv.now ≤ unity) (hsend : leg.sendEnv.now ≤ unity) :
    number ((leg.bytes.drop 0).take 1) = leg.state.code + 4 * leg.sendHolds.room.toNat + 8 * leg.sendHolds.call.toNat +
        16 * leg.receiveHolds.room.toNat + 32 * leg.receiveHolds.call.toNat ∧
      number ((leg.bytes.drop 1).take 3) = leg.gain ∧ number ((leg.bytes.drop 4).take 3) = leg.receiveEnv.now ∧
      number ((leg.bytes.drop 7).take 3) = leg.sendEnv.now := by
  have hcode : leg.state.code ≤ 2 := by cases leg.state <;> decide
  have hbit (b : Bool) : b.toNat ≤ 1 := Bool.toNat_le b
  have h1 := hbit leg.sendHolds.room
  have h2 := hbit leg.sendHolds.call
  have h3 := hbit leg.receiveHolds.room
  have h4 := hbit leg.receiveHolds.call
  have hmax : maxTrim = 131072 := rfl
  have hunity : unity = 65536 := rfl
  exact ⟨number_byteOf (by omega), number_bigEndian_of_lt (n := 3) (by omega), number_bigEndian_of_lt (n := 3) (by omega),
    number_bigEndian_of_lt (n := 3) (by omega)⟩

/-- The five bytes of a talker entry, field by field (Table 12-6). -/
theorem Talker.bytes_fields {e : Talker} (hcls : e.cls ≤ maxClass) (hrest : e.state.remaining ≤ 2000) :
    number ((e.bytes.drop 0).take 1) % 32 = addressOf e.pod ∧ number ((e.bytes.drop 0).take 1) / 32 = e.state.gate.code ∧
      number ((e.bytes.drop 1).take 1) / 64 = e.cls ∧ number ((e.bytes.drop 1).take 2) % 2 ^ 14 = e.state.remaining ∧
      number ((e.bytes.drop 3).take 2) = e.admission.toNat % 65536 := by
  have hcode : e.state.gate.code ≤ 3 := by cases e.state.gate <;> decide
  have haddress : addressOf e.pod = e.pod.val + 1 := rfl
  have hpod := e.pod.isLt
  have hmax : maxClass = 3 := rfl
  have hfirst : number ((e.bytes.drop 0).take 1) = addressOf e.pod + 32 * e.state.gate.code := number_byteOf (by omega)
  have hsecond : number ((e.bytes.drop 1).take 1) = e.state.remaining / 256 + 64 * e.cls := number_byteOf (by omega)
  have hpair : number ((e.bytes.drop 1).take 2) = (e.state.remaining / 256 + 64 * e.cls) * 256 + e.state.remaining % 256 := by
    have h : (e.bytes.drop 1).take 2 = [byteOf (e.state.remaining / 256 + 64 * e.cls)] ++ [byteOf e.state.remaining] := rfl
    rw [h, number_append, number_byteOf (by omega)]
    simp [number, toNat_byteOf]
  rw [hfirst, hsecond, hpair]
  exact ⟨by omega, by omega, by omega, by omega, number_bigEndian 2 _⟩

/-- A held entry's rest is what law 3 bounds; the others have none. -/
theorem Talker.remaining_le (e : Talker) (h : e.isHold = true → 1 ≤ e.state.remaining ∧ e.state.remaining ≤ 2000) :
    e.state.remaining ≤ 2000 := by
  cases hstate : e.state with
  | hold n => exact hstate ▸ (h (by simp [Talker.isHold, Talker.isOpen, Talker.isLast, hstate])).2
  | opened => exact Nat.zero_le _
  | last => exact Nat.zero_le _

end Sys2Proof.Machine

open Sys2Proof Sys2Proof.Machine

/-- Settles O32: the turns of the two reads, whose payloads are blocks of ten and of five bytes. -/
theorem legAndTalkerReads : Obligations.LegAndTalkerReads := by
  intro s q role rest hs hj
  refine ⟨fun h => ?_, fun h => ?_⟩
  · have ho := requestReadLegs_ok (hj.headTaken rest)
    simp only [State.leg_headTaken] at ho
    have hlength (m : LegId) (_ : m ∈ allLegs) : (s.leg m).bytes.length = 10 := (s.leg m).length_bytes
    refine ⟨_, (exec_readLegs q s).trans (congrArg _ (h.takeTurn_unchanged hj (row_readLegs []) ho)),
      length_flatMap_blocks allLegs hlength, fun m => ?_⟩
    have hblock {j n : Nat} (hj : j + n ≤ 10) := take_drop_flatMap hlength (getElem?_allLegs m) hj
    obtain ⟨hreceive, hsend, -⟩ := hs.gains.2.1 m
    obtain ⟨h0, h1, h4, h7⟩ := Leg.bytes_fields (hs.tables.2.1 m) hreceive.2 hsend.2
    dsimp only
    rw [hblock (j := 0) (n := 1) (by decide), hblock (j := 1) (n := 3) (by decide), hblock (j := 4) (n := 3) (by decide),
      hblock (j := 7) (n := 3) (by decide)]
    exact ⟨h0, h1, h4, h7⟩
  · have ho := requestReadTalkers_ok (hj.headTaken rest)
    rw [State.talkers_headTaken] at ho
    obtain ⟨-, -, hpods, hholds, -⟩ := hs.talkers
    have hlength (e : Talker) (_ : e ∈ s.talkers) : e.bytes.length = 5 := e.length_bytes
    refine ⟨_, (exec_readTalkers q s).trans (congrArg _ (h.takeTurn_unchanged hj (row_readTalkers []) ho)),
      length_flatMap_blocks s.talkers hlength, fun i e he => ?_⟩
    have hmem : e ∈ s.talkers := List.mem_of_getElem? he
    have hblock {j n : Nat} (hj : j + n ≤ 5) := take_drop_flatMap hlength he hj
    have hcls : e.cls ≤ maxClass := (hpods e hmem).2 ▸ (hs.tables.1 e.pod).1
    have hrest : e.state.remaining ≤ 2000 := e.remaining_le (hholds e hmem)
    obtain ⟨haddress, hcode, hclass, hremaining, hadmission⟩ := Talker.bytes_fields hcls hrest
    dsimp only
    rw [hblock (j := 0) (n := 1) (by decide), hblock (j := 1) (n := 1) (by decide), hblock (j := 1) (n := 2) (by decide),
      hblock (j := 3) (n := 2) (by decide)]
    cases hstate : e.state <;> rw [hstate] at hcode hremaining <;> exact ⟨haddress, hcode, hclass, hremaining, hadmission⟩
end

section
/-! READ_CHANNEL and READ_FAULTS (R85, R146, R161, R168): the records of a channel and the fault records, field by field. -/

namespace Sys2Proof.Machine

theorem exec_readChannel (q : PortId) (s : State) :
    exec (.readChannel q) s = .next (takeTurn .readChannel requestReadChannel q s) := rfl
theorem exec_readFaults (q : PortId) (s : State) : exec (.readFaults q) s = .next (takeTurn .readFaults requestReadFaults q s) := rfl

theorem row_readChannel (operands : List Byte) : (goodFrame 0x40 operands).row = .readChannel := rfl
theorem row_readFaults (operands : List Byte) : (goodFrame 0x44 operands).row = .readFaults := rfl

/-- The record of a pod, listed or not (R161). -/
def State.channelRecord (s : State) (p : PodId) : List Byte := if (s.pod p).listed then s.listedRecord p else s.unlistedRecord p

theorem requestReadChannel_ok {s : State} {q : PortId} {role : Role} {p : PodId} {a : Byte} (hj : JoinedAs s q role)
    (ha : a.toNat = addressOf p) : requestReadChannel q (goodFrame 0x40 [a]) s = answerDone (s.channelRecord p) s := by
  have hnumber : number [a] = addressOf p := by simp [number, ha]
  simp [requestReadChannel, goodFrame, ensure, hj.roleIn_all, hnumber, State.channelRecord]

theorem State.channelRecord_headTaken (s : State) (q : PortId) (rest : List RequestFrame) (p : PodId) :
    (s.headTaken q rest).channelRecord p = s.channelRecord p := by
  simp only [State.channelRecord, State.listedRecord, State.unlistedRecord, State.talkerPosition, State.pod_headTaken,
    State.muted_headTaken, State.talkers_headTaken]

theorem requestReadFaults_ok {s : State} {q : PortId} {role : Role} (hj : JoinedAs s q role) :
    requestReadFaults q (goodFrame 0x44 []) s = answerDone s.faultBytes s := by
  simp [requestReadFaults, goodFrame, ensure, hj.roleIn_all]

theorem State.faultBytes_headTaken (s : State) (q : PortId) (rest : List RequestFrame) :
    (s.headTaken q rest).faultBytes = s.faultBytes := by
  have hport (k : PortId) : ((s.headTaken q rest).port k).portLost = (s.port k).portLost := by
    by_cases hk : k = q <;> simp [State.headTaken, hk]
  simp only [State.faultBytes, State.pod_headTaken, hport, State.audioClock_headTaken, State.storeTimeout_headTaken]

/-- A pod's position in the talker list, which holds it once at most (Table 12-5). -/
theorem State.talkerPosition_eq (s : State) (p : PodId) :
    s.talkerPosition p = if s.talks p then s.talkers.findIdx (fun e => e.pod == p) + 1 else 0 := by
  have hlt : s.talkers.findIdx (fun e => e.pod == p) < s.talkers.length ↔ s.talks p = true := by
    rw [List.findIdx_lt_length, State.talks, List.any_eq_true]
  rw [State.talkerPosition, List.findIdx?_eq_guard_findIdx_lt]
  by_cases htalks : s.talks p = true
  · rw [Option.guard_eq_ite, if_pos (decide_eq_true (hlt.2 htalks)), if_pos htalks]
  · rw [Option.guard_eq_ite, if_neg (mt of_decide_eq_true (mt hlt.1 htalks)), if_neg htalks]

theorem State.talkerPosition_lt {s : State} (hs : s.sound) (p : PodId) : s.talkerPosition p < 256 := by
  obtain ⟨-, -, htuning⟩ := hs.tables
  obtain ⟨-, hlimit, -⟩ := hs.talkers
  have hopen : s.tuning.openLimit ≤ 8 := (htuning .openLimit (by decide)).2
  have hindex : s.talkers.findIdx (fun e => e.pod == p) ≤ s.talkers.length := List.findIdx_le_length
  rw [State.talkerPosition_eq]
  split <;> omega

/-- What the numbers of a channel's record may be (R3, R129, R168). -/
structure Pod.Fits (pod : Pod) : Prop where
  cls : pod.cls < 256
  gate : pod.gate.code < 256
  timeouts : pod.timeouts < 256
  checkFailures : pod.checkFailures < 256
  framingErrors : pod.framingErrors < 256
  misses : pod.misses < 256
  trim : pod.trim < 256 ^ 3
  volume : pod.volume < 256 ^ 3
  excl : 2 * pod.excl.toNat < 256 ^ 4
  mute : pod.muteEnv.now < 256 ^ 3
  level : pod.level < 256 ^ 3
  floor : pod.floor < 256 ^ 3

theorem State.pod_fits {s : State} (hs : s.sound) (p : PodId) : (s.pod p).Fits := by
  obtain ⟨hcls, -, htrim, hvolume, -⟩ := hs.tables.1 p
  obtain ⟨-, -, -, -, -, -, -, hmisses, -⟩ := hs.link.1 p
  obtain ⟨⟨-, hmute⟩, -, -, -, -, -, hlevel, hfloor⟩ := hs.gains.1 p
  obtain ⟨-, -, -, -, -, htimeouts, hchecks, hframings⟩ := hs.faults.1 p
  have hexcl := (s.pod p).excl.isLt
  have hgate : (s.pod p).gate.code ≤ 3 := by cases (s.pod p).gate <;> decide
  simp only [maxClass, maxTrim, unity, maxLevel] at hcls htrim hvolume hmute hlevel hfloor
  constructor <;> omega

/-- The bytes that both records of a channel hold in the same places (Table 12-5). -/
structure ChannelBytes (pod : Pod) (p : PodId) (bytes : List Byte) : Prop where
  address : number ((bytes.drop 0).take 1) = addressOf p
  link : bytes.getD 2 0 = pod.link.code
  holds : Carries (bytes.getD 3 0) [pod.holds.pod, pod.holds.room, pod.holds.call, pod.holds.link]
  cls : number ((bytes.drop 7).take 1) = pod.cls
  faults : Carries (bytes.getD 8 0) [pod.podLost.latch, pod.podClip.latch, pod.podLocal.latch, pod.podErrors.latch,
    pod.podLost.condition, pod.podClip.condition, pod.podLocal.condition, pod.podErrors.condition]
  timeouts : number ((bytes.drop 9).take 1) = pod.timeouts
  checkFailures : number ((bytes.drop 10).take 1) = pod.checkFailures
  framingErrors : number ((bytes.drop 11).take 1) = pod.framingErrors
  trim : number ((bytes.drop 13).take 3) = pod.trim
  volume : number ((bytes.drop 16).take 3) = pod.volume
  excl : number ((bytes.drop 19).take 4) = 2 * pod.excl.toNat

theorem State.listedRecord_bytes {s : State} {p : PodId} (h : (s.pod p).Fits) : ChannelBytes (s.pod p) p (s.listedRecord p) where
  address := number_byteOf (by have := p.isLt; simp only [addressOf]; omega)
  link := rfl
  holds := carries_byteOfBits _
  cls := number_byteOf h.cls
  faults := carries_byteOfBits _
  timeouts := number_byteOf h.timeouts
  checkFailures := number_byteOf h.checkFailures
  framingErrors := number_byteOf h.framingErrors
  trim := number_bigEndian_of_lt (n := 3) h.trim
  volume := number_bigEndian_of_lt (n := 3) h.volume
  excl := number_bigEndian_of_lt (n := 4) h.excl

theorem State.unlistedRecord_bytes {s : State} {p : PodId} (h : (s.pod p).Fits) : ChannelBytes (s.pod p) p (s.unlistedRecord p) where
  address := number_byteOf (by have := p.isLt; simp only [addressOf]; omega)
  link := rfl
  holds := carries_byteOfBits _
  cls := number_byteOf h.cls
  faults := carries_byteOfBits _
  timeouts := number_byteOf h.timeouts
  checkFailures := number_byteOf h.checkFailures
  framingErrors := number_byteOf h.framingErrors
  trim := number_bigEndian_of_lt (n := 3) h.trim
  volume := number_bigEndian_of_lt (n := 3) h.volume
  excl := number_bigEndian_of_lt (n := 4) h.excl

/-- A channel without a listed pod has no entry in the talker list (R67). -/
theorem State.talks_of_unlisted {s : State} (h : s.talkersSound) {p : PodId} (hl : (s.pod p).listed = false) : s.talks p = false := by
  obtain ⟨-, -, hpods, -⟩ := h
  refine List.any_eq_false.2 fun e he hep => ?_
  have hunmuted := (hpods e he).1
  rw [beq_iff_eq.1 hep, State.unmuted, hl] at hunmuted
  cases hunmuted

theorem State.pattern_of_unlisted {s : State} (h : s.settled) {p : PodId} (hl : (s.pod p).listed = false) : (s.pod p).pattern = .dark := by
  obtain ⟨-, -, hpattern⟩ := ((State.settled_iff s).1 h).1 p
  rw [hpattern]
  simp [State.patternOf, selectPattern, hl]

/-- Byte p of READ_FAULTS is the fault byte of the pod at p (Table 12-8). -/
theorem State.faultBytes_pod (s : State) (p : PodId) : s.faultBytes.getD p.val 0 = (s.pod p).faultByte := by
  simp [State.faultBytes, allPods, List.getElem?_append]

end Sys2Proof.Machine

open Sys2Proof Sys2Proof.Machine

/-- Settles O33: the turns of the two reads, with their records read byte by byte. -/
theorem channelAndFaultReads : Obligations.ChannelAndFaultReads := by
  intro s q role p a rest hs hj
  refine ⟨fun ha h => ?_, fun h => ?_⟩
  · have ho := requestReadChannel_ok (hj.headTaken rest) ha
    rw [State.channelRecord_headTaken] at ho
    have hfits := State.pod_fits hs p
    refine ⟨_, (exec_readChannel q s).trans (congrArg _ (h.takeTurn_unchanged hj (row_readChannel [a]) ho)), ?_⟩
    dsimp only
    rw [State.channelRecord]
    cases hl : (s.pod p).listed with
    | true =>
      have b := State.listedRecord_bytes hfits
      refine ⟨rfl, b.address, ?_, b.link, b.holds, number_byteOf hfits.gate, ?_, rfl, b.cls, b.faults, b.timeouts, b.checkFailures,
        b.framingErrors, number_byteOf hfits.misses, b.trim, b.volume, b.excl, fun _ => ⟨number_bigEndian_of_lt (n := 3) hfits.mute,
        number_bigEndian_of_lt (n := 3) hfits.level, number_bigEndian_of_lt (n := 3) hfits.floor⟩⟩
      · exact carries_byteOfBits _
      · exact (number_byteOf (State.talkerPosition_lt hs p)).trans (s.talkerPosition_eq p)
    | false =>
      have b := State.unlistedRecord_bytes hfits
      obtain ⟨-, -, -, -, -, -, -, -, -, hmisses, -⟩ := (hs.link.1 p).1 hl
      refine ⟨rfl, b.address, ?_, b.link, b.holds, rfl, ?_, ?_, b.cls, b.faults, b.timeouts, b.checkFailures,
        b.framingErrors, hmisses.symm, b.trim, b.volume, b.excl, fun h => (by cases h)⟩
      · have hmuted : s.muted p = false := by simp [State.muted, hl]
        rw [hmuted]
        exact fun i hi => (carries_byteOfBits _ i hi).trans (by interval_cases i <;> rfl)
      · rw [State.talks_of_unlisted hs.talkers hl]
        rfl
      · rw [State.pattern_of_unlisted hs.settled hl]
        rfl
  · have ho := requestReadFaults_ok (hj.headTaken rest)
    rw [State.faultBytes_headTaken] at ho
    refine ⟨_, (exec_readFaults q s).trans (congrArg _ (h.takeTurn_unchanged hj (row_readFaults []) ho)), ?_, fun p => ?_,
      carries_byteOfBits _, carries_byteOfBits _⟩
    · simp [State.faultBytes, allPods]
    · rw [State.faultBytes_pod]
      exact carries_byteOfBits _
end

section
/-! Events that find nothing to act on (log 3), and the characters that a reply's line carries (R130, R134). -/

namespace Sys2Proof.Machine

/-! ### The characters of a line (R130) -/

/-- The character of a segment of the line. -/
def LineSegment.char (u : LineSegment) : LineChar := ⟨u.data, u.marker, u.stop⟩

/-- What the line holds once some characters have been received. -/
theorem charsOn_levelsOf (us : List LineSegment) (tail : List Bool) : charsOn (levelsOf false us ++ tail) =
    us.map LineSegment.char ++ (receiverAfter (us.foldl (fun _ u => !u.stop) false)).receive tail := by
  rw [charsOn_eq, receive_levelsOf]
  rfl

/-- Less than a character's bits after them add no character. -/
theorem charsOn_levelsOf_short (us : List LineSegment) {tail : List Bool} (h : tail.length < 11) :
    charsOn (levelsOf false us ++ tail) = us.map LineSegment.char := by
  rw [charsOn_levelsOf, Receiver.receive_short _ _ h, List.append_nil]

section
variable {s : State} {a b c d e : List Bool} {us : List LineSegment} {tail : List Bool}

/-- A line with fewer than five characters ends no reception (R134; log 3). -/
theorem exec_replyComplete_of_few (hfew : us.length < 5) (htail : tail.length < 11)
    (h : a ++ b ++ c ++ d ++ e = levelsOf false us ++ tail) : exec (.replyComplete a b c d e) s = .next s := by
  have hexec : exec (.replyComplete a b c d e) s = execReplyComplete a b c d e s := rfl
  rw [hexec, execReplyComplete, h, charsOn_levelsOf_short us htail]
  match us, hfew with
  | [], _ | [_], _ | [_, _], _ | [_, _, _], _ | [_, _, _, _], _ => rfl

theorem exists_of_length_five {α : Type} {l : List α} (h : l.length = 5) : ∃ a b c d e, l = [a, b, c, d, e] := by
  match l, h with
  | [a, b, c, d, e], _ => exact ⟨a, b, c, d, e, rfl⟩

/-- A line with five characters ends the reception, which judges those five (R134). -/
theorem exec_replyComplete_of_five {u0 u1 u2 u3 u4 : LineSegment}
    (h : a ++ b ++ c ++ d ++ e = levelsOf false [u0, u1, u2, u3, u4] ++ tail) : exec (.replyComplete a b c d e) s =
      .next (endReception (fun p => judgeChars p u0.char u1.char u2.char u3.char u4.char) s) := by
  have hexec : exec (.replyComplete a b c d e) s = execReplyComplete a b c d e s := rfl
  rw [hexec, execReplyComplete, h, charsOn_levelsOf]
  rfl

end

/-! ### A reception that judges nothing (R134, R145) -/

/-- Outside a slot, or in one that has been judged, nothing is judged. -/
theorem endReception_of_judged {s : State} (h : ∀ x ∈ s.slot, x.judged = true) (judge : PodId → State → State) :
    endReception judge s = s := by
  unfold endReception
  split
  · rfl
  · rename_i x hx
    exact if_pos (h x hx)

/-- The reply of a pod that was unlisted during its slot is discarded (R145). -/
theorem endReception_of_discarded {s : State} {x : Slot} (hs : s.settled) (hx : s.slot = some x) (hj : x.judged = false)
    (hd : x.discard = true) (judge : PodId → State → State) :
    endReception judge s = { s with slot := some { x with judged := true } } := by
  have hsettled : ({ s with slot := some { x with judged := true } } : State).settled := State.settled_of_rooms hs rfl rfl rfl rfl
  rw [endReception, hx]
  dsimp only
  rw [if_neg (by simp [hj]), if_pos hd]
  exact hsettled

theorem exec_replyComplete_of_judged {s : State} (h : ∀ x ∈ s.slot, x.judged = true) (a b c d e : List Bool) :
    exec (.replyComplete a b c d e) s = .next s := by
  have hexec : exec (.replyComplete a b c d e) s = execReplyComplete a b c d e s := rfl
  rw [hexec, execReplyComplete]
  split
  · rw [endReception_of_judged h]
  · rfl

/-! ### Turns, presses and transactions that find nothing -/

/-- A row whose frame is not at the head takes no turn (R151; log 3). -/
theorem takeTurn_of_other {s : State} {q : PortId} {row : RequestRow} (request : Request)
    (h : ∀ f ∈ (s.port q).requests.head?, f.row ≠ row) : takeTurn row request q s = s := by
  unfold takeTurn
  cases hq : (s.port q).requests with
  | nil => rfl
  | cons f rest =>
    rw [hq] at h
    exact if_neg fun ⟨_, hrow⟩ => h f rfl hrow

theorem podOfAddress_of_none {a : Nat} (h : a = 0 ∨ 24 < a) : podOfAddress a = none := by
  rw [podOfAddress, dif_neg]
  omega

end Sys2Proof.Machine

open Sys2Proof Sys2Proof.Machine

/-- Settles O60: each event by the test of its command that fails. -/
theorem eventsThatFindNothing : Obligations.EventsThatFindNothing := by
  intro s q p
  refine ⟨fun h => ?_, fun h => ?_, fun h => ?_, fun h => ?_, fun h => ?_, fun h => ?_, fun row h => ?_, fun a h => ?_, fun h => ?_,
    fun hlate h => ?_, fun hlate h => ?_, fun a b c d e tail us hfew htail h => exec_replyComplete_of_few hfew htail h,
    fun x hx hc => ?_, fun a b c d e h => ⟨?_, exec_replyComplete_of_judged h a b c d e⟩,
    fun a b c d e x us tail hs hx hj hd hfive h => ?_, fun h => ?_, fun clocks h => ?_, fun clocked h => ?_⟩
  · simp [exec_shortPress, execShortPress, h]
  · have hnone : ¬ ((s.pod p).shortDue = 0 ∧ 0 < (s.pod p).longDue) := by omega
    simp only [exec_longPress, execLongPress, podOfAddress_addressOf, if_neg hnone]
  · simp [exec, execFrameWork, runFrameWork, h]
  · simp [exec, execMixFrameEvent, runMix, h]
  · simp [exec, execWatchdogExpiry, h]
  · rcases h with h | h <;> simp [exec, execPresenceTimerExpiry, h]
  · rw [exec_command, takeTurn_of_other _ h]
  · simp [exec_shortPress, exec_longPress, execShortPress, execLongPress, podOfAddress_of_none h]
  · simp [exec, execOperationTimeout, h]
  · rcases h with h | ⟨x, block, h⟩ <;> simp [exec, execStoreCompletion, hlate, h]
  · cases hop : s.storeOp with
    | erasing x block => exact absurd hop (h x block)
    | _ => simp [exec, execEraseBlockCompletion, hlate, hop]
  · exact congrArg _ (completeShift_of_complete hx hc)
  · exact congrArg _ (endReception_of_judged h _)
  · obtain ⟨u0, u1, u2, u3, u4, rfl⟩ := exists_of_length_five hfive
    refine ⟨congrArg _ (endReception_of_discarded hs hx hj hd _), ?_⟩
    rw [exec_replyComplete_of_five h, endReception_of_discarded hs hx hj hd]
  · obtain ⟨x, hx⟩ := Option.ne_none_iff_exists'.1 h
    simp [exec, execSelection, hx]
  · exact congrArg _ (if_neg (by simpa [periodClocks] using h))
  · simp [exec, execDeselection, execReplyFullyShiftedOut, completeShift, h]
end

section
open Sys2Proof.Machine
namespace Sys2Proof.Machine

/-! ### The fixed tables -/

theorem inSampleRange_slotSample (w : BitVec 32) : inSampleRange (slotSample w) := by
  have low := BitVec.le_toInt (w.extractLsb' 8 24)
  have high := BitVec.toInt_lt (x := w.extractLsb' 8 24)
  simp only [inSampleRange, slotSample, minSample, maxSample]
  omega

/-- The first 24 bits of a slot, most significant bit first, in two's complement (R109). -/
theorem slotSample_emod (w : BitVec 32) : slotSample w % 16777216 = w.toNat / 256 := by
  have small : w.toNat < 4294967296 := w.isLt
  have bits : (w.extractLsb' 8 24).toNat = w.toNat / 256 := by
    rw [BitVec.extractLsb'_toNat, Nat.shiftRight_eq_div_pow]
    omega
  rw [slotSample, BitVec.toInt_eq_toNat_cond, bits]
  split <;> omega

/-- The codes that name a value, and none of those above them (Table 12-2). -/
theorem codes_named (n : Nat) :
    holdTargetOfCode n = [HoldTarget.pods, .send, .receive][n]? ∧
    rosterOpOfCode n = [RosterOp.list, .unlist, .chair, .cls][n]? ∧ chairChoiceOfCode n = [false, true][n]? ∧
    gainKindOfCode n = [GainKind.trim, .volume, .legGain][n]? ∧ roleOfCode n = [Role.call, .room, .view][n]? ∧
    legStateOfCode n = [LegState.closed, .opened, .held][n]? := by
  match n with
  | 0 => decide
  | 1 => decide
  | 2 => decide
  | 3 => decide
  | n + 4 =>
    simp [holdTargetOfCode, rosterOpOfCode, chairChoiceOfCode, gainKindOfCode, roleOfCode, legStateOfCode]

end Sys2Proof.Machine

open Sys2Proof Sys2Proof.Machine

/-- Settles O25: the finite tables by evaluation, the codes by the number of values they name, and the slots by the two's
complement of their first 24 bits. -/
theorem fixedTablesOfTheManual : Obligations.FixedTablesOfTheManual := by
  unfold Obligations.FixedTablesOfTheManual
  refine ⟨by decide, ⟨rfl, fun n => ?_⟩, by decide, by decide +kernel, by decide, by decide +kernel, by decide +kernel, by decide +kernel,
    ⟨rfl, fun _ => rfl, fun _ => rfl⟩, rfl, rfl, rfl, rfl, rfl, rfl, rfl, rfl, ⟨rfl, fun _ => rfl⟩,
    ⟨rfl, fun _ _ => rfl, fun _ => rfl, fun _ _ => rfl⟩, rfl, codes_named, fun more => ⟨rfl, rfl, rfl⟩, rfl,
    fun l p => ⟨inSampleRange_slotSample _, slotSample_emod _⟩, fun l m => ⟨inSampleRange_slotSample _, slotSample_emod _⟩⟩
  simp [paramOfId]

end

section
open Sys2Proof.Machine
namespace Sys2Proof.Machine

/-! ### A send and the leg's own audio (law 2) -/

/-- The state with the frame `w` at ME. -/
def State.mixing (s : State) (w : Option WorkFrame) : State := { s with mixInput := w }

theorem State.mixInput_mixing (s : State) (w : Option WorkFrame) : (s.mixing w).mixInput = w := rfl

theorem State.outputSample_mixing (s : State) (w : Option WorkFrame) (l : LaneInput) (k : Nat) :
    (s.mixing w).outputSample l k = s.outputSample l k := rfl

/-- The gains move without a look at the frame (R87). -/
theorem State.stepGains_mixing (s : State) (w : Option WorkFrame) : (s.mixing w).stepGains = s.stepGains.mixing w := by
  simp only [State.stepGains, State.mixing, State.mapPods, State.mapLegs]
  rfl

theorem State.outputSample_mixed_mixing (s : State) (w : WorkFrame) (l : LaneInput) (k : Nat) :
    ((s.mixing (some w)).mixed w).outputSample l k = s.stepGains.outputSample l k := by
  rw [State.mixed, State.outputSample_settle, State.outputSample_handOff, State.stepGains_mixing, State.outputSample_mixing]

/-- The bridge without one leg's own term is the sum of the other terms (R101). -/
theorem sum_sub_own (f g : LegId → Int) (j : LegId) (h : ∀ m, m ≠ j → f m = g m) :
    ∑ m, f m - f j = ∑ m, g m - g j := by
  rw [← Finset.add_sum_erase _ _ (Finset.mem_univ j), ← Finset.add_sum_erase _ g (Finset.mem_univ j),
    Finset.sum_congr rfl fun m hm => h m (Finset.ne_of_mem_erase hm)]
  ring

/-- A send rests on the channels and on the other legs (R101). -/
theorem State.send_of_others (s : State) {l l' : LaneInput} (k : Nat) (j : LegId)
    (hpods : ∀ p, podSample l p = podSample l' p) (hlegs : ∀ m, m ≠ j → legSample l m = legSample l' m) :
    (s.outputSample l k).sends[j] = (s.outputSample l' k).sends[j] := by
  have hpod : ∀ p, s.podTerm l k p = s.podTerm l' k p := fun p => by simp only [State.podTerm, hpods p]
  have hbridge := sum_sub_own (s.legTerm l k) (s.legTerm l' k) j fun m hm => by simp only [State.legTerm, hlegs m hm]
  simp only [State.sends_outputSample, sendSample, hpod, hbridge]

end Sys2Proof.Machine

open Sys2Proof Sys2Proof.Machine

/-- Settles O50: both runs form their outputs from the same gains, and a send from the bridge without its own leg. -/
theorem noLegHearsItself : Obligations.NoLegHearsItself := by
  unfold Obligations.NoLegHearsItself
  intro s t t' j ls ls' hlength hsame ht ht'
  obtain rfl : (s.mixing (some ⟨ls, true⟩)).mixed ⟨ls, true⟩ = t :=
    Host.Outcome.next.inj ((exec_mixFrameEvent_of_delivered (s.mixInput_mixing _) rfl).symm.trans ht)
  obtain rfl : (s.mixing (some ⟨ls', true⟩)).mixed ⟨ls', true⟩ = t' :=
    Host.Outcome.next.inj ((exec_mixFrameEvent_of_delivered (s.mixInput_mixing _) rfl).symm.trans ht')
  refine ⟨_, _, State.waiting_mixed _ _, State.waiting_mixed _ _, by simpa using hlength, fun k o o' ho ho' => ?_⟩
  simp only [State.outputSample_mixed_mixing, List.getElem?_mapIdx, Option.map_eq_some_iff] at ho ho'
  obtain ⟨l, hl, rfl⟩ := ho
  obtain ⟨l', hl', rfl⟩ := ho'
  obtain ⟨hpods, hlegs⟩ := hsame k l l' hl hl'
  exact s.stepGains.send_of_others k j hpods hlegs

end

section
open Sys2Proof.Machine
namespace Sys2Proof.Machine

/-! ### The gains after a mix frame event (R45 to R49, R93 to R97) -/

theorem State.pod_settle_following (u : State) (p : PodId) : u.settle.pod p = (u.pod p).following u.settle p := by
  simp [Pod.following]

theorem nomTarget_eq (n : Nat) : nomTarget n = [65536, 65536, 46341, 37837, 32768, 29309, 26755, 24770].getD n 23170 := by
  match n with
  | 0 | 1 | 2 | 3 | 4 | 5 | 6 | 7 => rfl
  | n + 8 => rfl

/-- One step of an envelope moves its present value by at most the step (R46). -/
theorem Ramp.toward_eq (r : Ramp) (target step : Nat) : r.toward target step = ⟨r.now, moved r.now target step⟩ := by
  simp only [Ramp.toward, moved]
  congr 1
  split
  · rfl
  · rename_i hle
    split
    · rfl
    · omega

theorem State.muteTarget_eq (s : State) {p : PodId} (h : (s.pod p).listed = true) :
    s.muteTarget p = if s.muted p then 0 else 65536 := by
  rw [State.muteTarget, State.unmuted_eq, h]
  cases s.muted p <;> rfl

variable (s : State)

/-- The gains of a listed channel after stages 1 to 3 (R46 to R48, R93, R96, R97). -/
theorem State.stepPod_of_listed {p : PodId} (h : (s.pod p).listed = true) :
    s.stepPod p (s.pod p) =
      let pod := s.pod p
      let ceil := fun frames => (65536 + frames - 1) / frames
      let m := moved pod.muteEnv.now (if s.muted p then 0 else 65536) (ceil s.tuning.muteRamp)
      let target := if s.talkers.any fun e => e.pod == p then 65536 else s.tuning.offGain
      let g := moved pod.gateEnv.now target
        (if pod.gateEnv.now < target then ceil s.tuning.attack else ceil s.tuning.release)
      { pod with
        volumeGain := ⟨pod.volumeGain.now, pod.volume⟩
        muteEnv := ⟨pod.muteEnv.now, m⟩, gateEnv := ⟨pod.gateEnv.now, g⟩
        contrib := ⟨pod.contribEnd, ((pod.trim * m + 32768) / 65536 * g + 32768) / 65536⟩
        contribEnd := ((pod.trim * m + 32768) / 65536 * g + 32768) / 65536 } := by
  simp only [State.stepPod, h, if_true, Ramp.toward_eq, s.muteTarget_eq h]
  rfl

theorem State.stepPod_of_unlisted {p : PodId} (h : (s.pod p).listed = false) :
    s.stepPod p (s.pod p) = { s.pod p with volumeGain := ⟨(s.pod p).volumeGain.now, (s.pod p).volume⟩ } := by
  simp only [State.stepPod, h]
  rfl

/-- The envelopes and the receive factor of a leg after stages 1 to 3 (R49, R95). -/
theorem State.stepLeg_eq (leg : Leg) : s.stepLeg leg =
    let ramp := (65536 + s.tuning.muteRamp - 1) / s.tuning.muteRamp
    let target := fun (h : LegHolds) => if leg.state = .opened ∧ h = LegHolds.empty then 65536 else 0
    let e := moved leg.receiveEnv.now (target leg.receiveHolds) ramp
    { leg with
      receiveEnv := ⟨leg.receiveEnv.now, e⟩
      sendEnv := ⟨leg.sendEnv.now, moved leg.sendEnv.now (target leg.sendHolds) ramp⟩
      receiveFactor := ⟨leg.receiveFactor.now, (leg.gain * e + 32768) / 65536⟩ } := by
  have hempty : ∀ h : LegHolds, (!h.any) = true ↔ h = LegHolds.empty := fun h => by
    rw [Bool.not_eq_true', ← Bool.not_eq_true, LegHolds.any_iff, not_not]
  have hr : leg.receiveTarget = if leg.state = .opened ∧ leg.receiveHolds = LegHolds.empty then 65536 else 0 := by
    simp only [Leg.receiveTarget, hempty]; rfl
  have hq : leg.sendTarget = if leg.state = .opened ∧ leg.sendHolds = LegHolds.empty then 65536 else 0 := by
    simp only [Leg.sendTarget, hempty]; rfl
  simp only [State.stepLeg, Ramp.toward_eq, hr, hq]
  rfl

section
variable (out : Option (List OutputSample))
theorem State.pod_mixHanded (p : PodId) : (s.mixHanded out).pod p = s.pod p := rfl
theorem State.leg_mixHanded (m : LegId) : (s.mixHanded out).leg m = s.leg m := rfl
theorem State.ports_mixHanded : (s.mixHanded out).ports = s.ports := rfl
theorem State.waiting_mixHanded : (s.mixHanded out).waiting = out := rfl
theorem State.nomGain_mixHanded : (s.mixHanded out).nomGain = s.nomGain := rfl
theorem State.reinforceGain_mixHanded : (s.mixHanded out).reinforceGain = s.reinforceGain := rfl
end

/-- The contribution gain that stages 1 to 3 leave is at most the trim (law 13). -/
theorem State.contrib_stepPod_le {s : State} (ht : s.tablesSound) (hg : s.gainsSound) {p : PodId}
    (h : (s.pod p).listed = true) : (s.stepPod p (s.pod p)).contrib.now ≤ (s.pod p).trim := by
  obtain ⟨hmute, hgate, -⟩ := hg.1 p
  have hm := Ramp.atMost.toward hmute (s.muteTarget_le p) (rampStep s.tuning.muteRamp)
  have hg' := Ramp.atMost.toward hgate (State.gateTarget_le ht p) (gateStep s.tuning (s.pod p).gateEnv (s.gateTarget p))
  simp only [State.stepPod, h, if_true]
  exact (halfUp_le hg'.2).trans (halfUp_le hm.2)

/-- A record of an unlisted pod stays as it was but for its feed gain (R93). -/
theorem State.following_of_unlisted {s t : State} (hs : s.settled) {p : PodId} (h : (s.pod p).listed = false)
    (hlisted : (t.pod p).listed = false) (hgate : t.gateOf p = s.gateOf p) (slid : Ramp) :
    ({ s.pod p with volumeGain := slid } : Pod).following t p = { s.pod p with volumeGain := slid } := by
  have hpattern : t.patternOf p = s.patternOf p := by simp [State.patternOf, selectPattern, h, hlisted]
  have hsame := State.following_of_settled hs p hgate hpattern
  rw [Pod.following] at hsame ⊢
  exact congrArg (fun pod => { pod with volumeGain := slid }) hsame

end Sys2Proof.Machine

open Sys2Proof Sys2Proof.Machine

/-- Settles O47: the event steps every record by stages 1 to 3, and settles. -/
theorem mixFrameEventMovesTheGains : Obligations.MixFrameEventMovesTheGains := by
  unfold Obligations.MixFrameEventMovesTheGains
  intro s w hs hw
  have hexec : exec .mixFrameEvent s = .next (runMix s) := rfl
  have hrun := runMix_of_worked hw
  have hpod : ∀ p, (runMix s).pod p = (s.stepPod p (s.pod p)).following (runMix s) p := fun p => by
    rw [hrun, State.pod_settle_following, State.pod_mixHanded, State.pod_stepGains]
  have hleg : ∀ m, (runMix s).leg m = s.stepLeg (s.leg m) := fun m => by
    rw [hrun, State.leg_settle, State.leg_mixHanded, State.leg_stepGains]
  have htalkers : (runMix s).talkers = s.talkers := by rw [State.runMix_frame]
  have hwaiting : (runMix s).waiting = s.waitingAfter w := by rw [hrun, State.waiting_settle, State.waiting_mixHanded]
  have hports : (runMix s).ports = s.ports := by
    rw [hrun]
    refine State.ports_settle hs ?_
    rw [State.ports_mixHanded, s.stepGains_eq]
  have hnom : (runMix s).nomGain = s.nomGain.slideTo (nomTarget s.talkers.length) := by
    rw [hrun, State.nomGain_settle, State.nomGain_mixHanded, s.stepGains_eq]
  have hreinforce : (runMix s).reinforceGain = s.reinforceGain.slideTo s.tuning.reinforce := by
    rw [hrun, State.reinforceGain_settle, State.reinforceGain_mixHanded, s.stepGains_eq]
  have hframe := s.runMix_frame
  generalize runMix s = t at *
  have hunlisted : ∀ p, (s.pod p).listed = false →
      t.pod p = { s.pod p with volumeGain := ⟨(s.pod p).volumeGain.now, (s.pod p).volume⟩ } := fun p hl => by
    have hp := hpod p
    have hl' : (t.pod p).listed = false := by rw [hp]; exact (s.listed_stepPod p _).trans hl
    rw [s.stepPod_of_unlisted hl] at hp
    exact hp.trans (State.following_of_unlisted hs hl hl' (State.gateOf_congr p htalkers) _)
  refine ⟨t, hexec, fun p => ?_, fun m => ?_, fun hg ht p hl => ?_, fun hlink p hl => ?_, fun hd => ?_, ?_⟩
  · dsimp only
    split
    · next hl => rw [hpod p, s.stepPod_of_listed hl]
    · next hl => exact hunlisted p (Bool.eq_false_iff.2 hl)
  · rw [hleg m, s.stepLeg_eq]
  · rw [hpod p]
    have htrim : (s.stepPod p (s.pod p)).trim = (s.pod p).trim := by rw [State.stepPod_eq]
    exact (State.contrib_stepPod_le ht hg hl).trans_eq htrim.symm
  · rw [hunlisted p hl]
    obtain ⟨-, -, -, -, -, -, -, hcontrib, -⟩ := (hlink.1 p).1 hl
    exact hcontrib
  · rw [hwaiting, State.waitingAfter, hd]
    rfl
  · rw [hnom, hreinforce, hports] at hframe
    rw [nomTarget_eq] at hframe
    exact hframe

end

section
open Sys2Proof.Machine
namespace Sys2Proof.Machine

/-! ### What the frame work tracks (R62 to R66) -/

theorem le_foldl_max_natAbs (xs : List Int) (m : Nat) : m ≤ xs.foldl (fun m x => max m x.natAbs) m ∧
    ∀ v ∈ xs, v.natAbs ≤ xs.foldl (fun m x => max m x.natAbs) m := by
  induction xs generalizing m with
  | nil => exact ⟨le_rfl, fun _ h => absurd h List.not_mem_nil⟩
  | cons x xs ih =>
    obtain ⟨hstart, hrest⟩ := ih (max m x.natAbs)
    rw [List.foldl_cons]
    refine ⟨(Nat.le_max_left _ _).trans hstart, fun v hv => ?_⟩
    rcases List.mem_cons.1 hv with rfl | hv
    · exact (Nat.le_max_right _ _).trans hstart
    · exact hrest v hv

theorem foldl_max_natAbs_mem (xs : List Int) (m : Nat) :
    xs.foldl (fun m x => max m x.natAbs) m = m ∨ ∃ v ∈ xs, v.natAbs = xs.foldl (fun m x => max m x.natAbs) m := by
  induction xs generalizing m with
  | nil => exact .inl rfl
  | cons x xs ih =>
    rw [List.foldl_cons]
    rcases ih (max m x.natAbs) with h | ⟨v, hv, h⟩
    · rw [h]
      rcases le_total x.natAbs m with hle | hle
      · exact .inl (Nat.max_eq_left hle)
      · exact .inr ⟨x, List.mem_cons_self, (Nat.max_eq_right hle).symm⟩
    · exact .inr ⟨v, List.mem_cons_of_mem _ hv, h⟩

theorem isClipFrame_eq (xs : List Int) : isClipFrame xs = decide (-8388608 ∈ xs ∨ 8388607 ∈ xs) := by
  rw [Bool.eq_iff_iff, isClipFrame, List.any_eq_true, decide_eq_true_iff]
  constructor
  · rintro ⟨v, hv, h⟩
    rcases Bool.or_eq_true_iff.1 h with h | h
    · exact .inl (beq_iff_eq.1 h ▸ hv)
    · exact .inr (beq_iff_eq.1 h ▸ hv)
  · rintro (h | h)
    · exact ⟨_, h, rfl⟩
    · exact ⟨_, h, rfl⟩

section
variable (s : State) (w : WorkFrame) {p : PodId}

theorem State.trackedIn_of_listed (h : (s.pod p).listed = true) : s.trackedIn w p =
    let l := nextLevel (s.pod p).level (peak (w.podSamples p))
    ⟨l, nextFloor (s.pod p).floor l, decide (threshold s.tuning (s.pod p).floor < l), isClipFrame (w.podSamples p)⟩ := by
  simp only [State.trackedIn, trackPod, h, if_true]

/-- The record of a listed pod after the frame work (R62 to R66, R80). -/
theorem State.workedPod_of_listed (h : (s.pod p).listed = true) : s.workedPod w p =
    let l := nextLevel (s.pod p).level (peak (w.podSamples p))
    { s.pod p with
      level := l, floor := nextFloor (s.pod p).floor l
      mutedTalk := decide (threshold s.tuning (s.pod p).floor < l) && s.muted p
      podClip := (s.pod p).podClip.report (isClipFrame (w.podSamples p)) } := by
  simp only [State.workedPod, s.trackedIn_of_listed w h, h, if_true]

end

/-! ### The end of the frame work (R61) -/

/-- The frame goes on to ME (R61). -/
def State.toMix (s : State) (w : WorkFrame) : State := { s with gateInput := none, mixInput := some w }

section
variable (s : State) (w : WorkFrame)

theorem State.toMix_raiseIf (b : Bool) (c : Category) : (s.raiseIf b c).toMix w = (s.toMix w).raiseIf b c := by
  cases b <;> rfl

theorem State.pod_toMix (p : PodId) : (s.toMix w).pod p = s.pod p := rfl

/-- The records and the list that the frame work leaves, its frame handed on. -/
def State.worked : State :=
  ((s.counted (frameWorkOn w s).talkers).mapPods fun p _ => s.workedPod w p).toMix w

theorem State.pod_worked (p : PodId) : (s.worked w).pod p = s.workedPod w p := by
  rw [State.worked, State.pod_toMix, State.pod_mapPods]

theorem State.worked_frame : s.worked w = { s with
    pods := (s.worked w).pods, frameCount := s.frameCount + 1, talkers := (frameWorkOn w s).talkers
    gateInput := none, mixInput := some w } := by
  generalize hu : s.worked w = u
  rw [← hu]
  simp only [State.worked, State.toMix, State.counted, State.mapPods]

/-- The notices of the frame work (R84, R166). -/
def State.workNotices : CategorySet :=
  onlyIf (talkersDiffer s.talkers (frameWorkOn w s).talkers || allPods.any fun p => (s.pod p).mutedTalk != (s.workedPod w p).mutedTalk)
    .talkers |||
  onlyIf (allPods.any fun p => (s.pod p).listed && (s.pod p).podClip.reportNotice (s.trackedIn w p).clip) .faults

theorem exec_frameWork_worked (h : s.gateInput = some w) :
    exec .frameWork s = .next ((s.worked w).settle.noticed (s.workNotices w)) := by
  have hraised : (frameWorkOn w s).toMix w = ((s.worked w).raiseIf
      (allPods.any fun p => (s.pod p).listed && (s.pod p).podClip.reportNotice (s.trackedIn w p).clip) .faults).raiseIf
      (talkersDiffer s.talkers (frameWorkOn w s).talkers || allPods.any fun p => (s.pod p).mutedTalk != (s.workedPod w p).mutedTalk)
      .talkers := by
    rw [frameWorkOn_eq, State.toMix_raiseIf, State.toMix_raiseIf, ← frameWorkOn_eq]
    rfl
  rw [exec_frameWork_of_handed s w h]
  refine congrArg _ ((congrArg State.settle hraised).trans ?_)
  rw [State.settle_raiseIf, State.settle_raiseIf, State.noticed_noticed, State.workNotices]

end

end Sys2Proof.Machine

open Sys2Proof Sys2Proof.Machine

/-- Settles O45: the records that the tracking part leaves, under the notices of the lists and records it changed. -/
theorem frameWorkTracksAndFlags : Obligations.FrameWorkTracksAndFlags := by
  unfold Obligations.FrameWorkTracksAndFlags
  intro s w hs hw
  have hexec := exec_frameWork_worked s w hw
  have hpod : ∀ p, ((s.worked w).settle.noticed (s.workNotices w)).pod p =
      (s.workedPod w p).following ((s.worked w).settle.noticed (s.workNotices w)) p := fun p => by
    rw [State.pod_settle_noticed, State.pod_worked]
  have hports : (s.worked w).ports = s.ports := by rw [State.worked_frame]
  have hframe := State.settle_noticed_frame hs hports (s.workNotices w)
  generalize (s.worked w).settle.noticed (s.workNotices w) = t at *
  have htalkers : t.talkers = (frameWorkOn w s).talkers := by rw [hframe, State.worked_frame]
  have hflag : ∀ p, (t.pod p).mutedTalk = (s.workedPod w p).mutedTalk := fun p => by rw [hpod p]; rfl
  have hclip : ∀ p, ((s.pod p).listed && (s.pod p).podClip.reportNotice (s.trackedIn w p).clip) =
      ((s.pod p).listed && (s.pod p).podClip.reportNotice (isClipFrame (w.podSamples p))) := fun p => by
    cases h : (s.pod p).listed with
    | false => rfl
    | true => rw [s.trackedIn_of_listed w h]
  refine ⟨t, hexec, fun p h => ?_, fun p h => ⟨peak (w.podSamples p), ?_, ?_, ?_⟩, ?_⟩
  · rw [hpod p, State.workedPod_of_unlisted h w]
  · exact (le_foldl_max_natAbs _ 0).2
  · exact foldl_max_natAbs_mem _ 0
  · rw [hpod p, s.workedPod_of_listed w h, isClipFrame_eq]
    rfl
  · rw [State.worked_frame] at hframe
    simp only [State.workNotices, hclip, isClipFrame_eq, ← htalkers, ← hflag] at hframe
    exact hframe

end

section
open Sys2Proof.Machine
namespace Sys2Proof.Machine

/-! ### The judgement of a slot (R134 to R144) -/

theorem onlyIf_or (a b : Bool) (c : Category) : onlyIf a c ||| onlyIf b c = onlyIf (a || b) c := by
  cases a <;> cases b <;> simp [onlyIf]

section
variable (s : State) (x : Slot) (f : Pod → Pod) (cs : CategorySet)

/-- The state that a judgement leaves: its pod's record changed and passed through R21, with further notices. -/
def State.judgedAs : State := (holdEvent s ((s.slotJudged x).modPod x.pod f)).noticed cs

theorem State.modPod_slotJudged_frame : (s.slotJudged x).modPod x.pod f =
    { s.slotJudged x with pods := ((s.slotJudged x).modPod x.pod f).pods } := by
  simp only [State.modPod, State.mapPods]

theorem State.pod_modPod_slotJudged (p : PodId) : ((s.slotJudged x).modPod x.pod f).pod p =
    if p = x.pod then f (s.pod p) else s.pod p := by
  rw [State.pod_modPod, State.pod_slotJudged]

variable {s x f} (hflag : (f (s.pod x.pod)).mutedTalk = (s.pod x.pod).mutedTalk)
include hflag

theorem HoldChange.judged : HoldChange s ((s.slotJudged x).modPod x.pod f) where
  flags := fun p => by
    rw [State.pod_modPod_slotJudged]
    split
    · next h => rw [h, hflag]
    · rfl
  talkers := by simp
  ports := by rw [State.modPod_slotJudged_frame]; rfl

/-- What a judgement leaves outside the pod records (R21, R22, R134). -/
theorem State.judgedAs_frame (hs : s.settled) : s.judgedAs x f cs = { s with
    pods := (s.judgedAs x f cs).pods, slot := some { x with judged := true }, talkers := talkersLeft s (s.judgedAs x f cs)
    ports := (s.noticed (cs ||| holdNotices s (s.judgedAs x f cs))).ports } := by
  have hevent := (HoldChange.judged hflag).holdEvent_frame hs (s.modPod_slotJudged_frame x f)
  rw [State.judgedAs]
  generalize holdEvent s ((s.slotJudged x).modPod x.pod f) = t at hevent ⊢
  have hports : t.ports = (s.noticed (holdNotices s t)).ports := by conv_lhs => rw [hevent]
  have hboth : (t.noticed cs).ports = (s.noticed (cs ||| holdNotices s t)).ports := by
    rw [State.ports_noticed_congr cs hports, State.noticed_noticed]
  rw [talkersLeft_noticed, holdNotices_noticed, State.pods_noticed, ← hboth]
  exact (t.noticed_eq cs).trans (congrArg (fun u : State => { u with ports := (t.noticed cs).ports }) hevent)

/-- The record that a judgement leaves of its pod (R21, R56, R58). -/
theorem State.pod_judgedAs_self : (s.judgedAs x f cs).pod x.pod =
    ({ f (s.pod x.pod) with mutedTalk := flagLeft s (s.judgedAs x f cs) x.pod } : Pod).following (s.judgedAs x f cs) x.pod := by
  have hpod := (HoldChange.judged hflag).pod_eq x.pod
  rw [State.pod_modPod_slotJudged, if_pos rfl] at hpod
  rw [State.judgedAs, State.pod_noticed, hpod]
  simp [Pod.following, flagLeft]

/-- A judgement leaves the records of the other pods (R134). -/
theorem State.pod_judgedAs_of_ne (hs : s.settled) {p : PodId} (hp : p ≠ x.pod) : (s.judgedAs x f cs).pod p = s.pod p := by
  have hrecord := (HoldChange.judged hflag).pod_eq p
  rw [State.pod_modPod_slotJudged, if_neg hp] at hrecord
  have hframe := State.judgedAs_frame cs hflag hs
  have hpod : (s.judgedAs x f cs).pod p =
      ({ s.pod p with mutedTalk := flagLeft s (s.judgedAs x f cs) p } : Pod).following (s.judgedAs x f cs) p := by
    rw [State.judgedAs, State.pod_noticed, hrecord]
    simp [Pod.following, flagLeft]
  generalize s.judgedAs x f cs = t at hframe hpod ⊢
  have hprivacy : t.privacy = s.privacy := by rw [hframe]
  have hlisted : (t.pod p).listed = (s.pod p).listed := by rw [hpod]; rfl
  have hholds : (t.pod p).holds = (s.pod p).holds := by rw [hpod]; rfl
  have hmuted : t.muted p = s.muted p := State.muted_congr hlisted hholds hprivacy
  have hunmuted : t.unmuted p = s.unmuted p := State.unmuted_congr hlisted hholds hprivacy
  have hnone : (s.muted p && s.unmuted p) = false := by
    rw [State.unmuted_eq]
    cases s.muted p <;> simp
  have hkept : flagLeft s t p = (s.pod p).mutedTalk := by rw [flagLeft, hunmuted, hnone, Bool.not_false, Bool.and_true]
  rw [hkept] at hpod
  have htalkers : t.talkers = s.talkers.filter fun e => !(s.unmuted e.pod && t.muted e.pod) := by
    conv_lhs => rw [hframe]
    rfl
  obtain ⟨hgate, htalks⟩ := State.gateOf_talks_filter (gone := fun p => s.unmuted p && t.muted p) htalkers
    (p := p) (by rw [hmuted, Bool.and_comm]; exact hnone)
  exact State.following_eq_self hs p hgate htalks hpod hprivacy

theorem State.pod_judgedAs (hs : s.settled) (p : PodId) : (s.judgedAs x f cs).pod p = if p = x.pod then
    ({ f (s.pod x.pod) with mutedTalk := flagLeft s (s.judgedAs x f cs) p } : Pod).following (s.judgedAs x f cs) p
    else s.pod p := by
  split
  · next h => rw [h]; exact State.pod_judgedAs_self cs hflag
  · next h => exact State.pod_judgedAs_of_ne cs hflag hs h

end

/-- A miss as a judgement with its notices (R136 to R139, R166). -/
theorem endReception_missed {s : State} {x : Slot} (h : Awaiting s x) (kind : Miss) :
    endReception (fun p => judgeMiss p kind) s = s.judgedAs x (fun pod => pod.missed kind s.tuning.missLimit)
      (onlyIf (entersLost (s.pod x.pod).link (s.pod x.pod).misses s.tuning.missLimit || (s.pod x.pod).link == .online) .pods |||
        onlyIf ((entersLost (s.pod x.pod).link (s.pod x.pod).misses s.tuning.missLimit && !(s.pod x.pod).podLost.latch) ||
          (decide ((s.pod x.pod).counter kind = 254) && !(s.pod x.pod).podErrors.latch)) .faults) := by
  rw [endReception_of_awaiting h, judgeMiss_eq, takeHoldChange_slotJudged, State.settle_raiseIf, State.settle_raiseIf,
    State.settle_raiseIf, State.noticed_noticed, State.noticed_noticed, BitVec.or_assoc, onlyIf_or]
  rfl

/-- A good reply as a judgement with its notices (R140, R143, R166). -/
theorem endReception_replied {s : State} {x : Slot} (h : Awaiting s x) (short long : Nat) (fault : Bool) :
    endReception (fun p => judgeReply p short long fault) s = s.judgedAs x (fun pod => pod.replied short long fault)
      (onlyIf ((s.pod x.pod).link != .online) .pods |||
        onlyIf ((s.pod x.pod).podLocal.reportNotice fault ||
          ((s.pod x.pod).link == .lost && (s.pod x.pod).podLost.reportNotice false)) .faults) := by
  rw [endReception_of_awaiting h, judgeReply_eq, takeHoldChange_slotJudged, State.settle_raiseIf, State.settle_raiseIf,
    State.settle_raiseIf, State.noticed_noticed, State.noticed_noticed, BitVec.or_assoc, onlyIf_or]
  rfl

end Sys2Proof.Machine
end

section
open Sys2Proof.Machine
namespace Sys2Proof.Machine

/-! ### What a line judges (R135) -/

section
variable (p : PodId) (echo counts flags high low : LineSegment) (s : State)

/-- A bad stop bit or a marker among the five characters is a framing error (R135). -/
theorem judgeChars_framing (h : ∃ u ∈ [echo, counts, flags, high, low], u.marker = true ∨ u.stop = false) :
    judgeChars p echo.char counts.char flags.char high.char low.char s = judgeMiss p .framing s := by
  have hbad : ([echo, counts, flags, high, low].map LineSegment.char).any (fun c => c.marker || !c.stop) = true := by
    obtain ⟨u, hu, hbad⟩ := h
    refine List.any_eq_true.2 ⟨u.char, List.mem_map_of_mem hu, ?_⟩
    simpa [LineSegment.char] using hbad
  exact if_pos hbad

/-- With five good characters the check and the echo decide (R135). -/
theorem judgeChars_framed (h : ¬ ∃ u ∈ [echo, counts, flags, high, low], u.marker = true ∨ u.stop = false) :
    judgeChars p echo.char counts.char flags.char high.char low.char s =
      if high.data = (crc16 [echo.data, counts.data, flags.data]).extractLsb' 8 8 ∧
        low.data = (crc16 [echo.data, counts.data, flags.data]).extractLsb' 0 8 ∧ echo.data.toNat = addressOf p
      then judgeReply p (counts.data.toNat % 16) (counts.data.toNat / 16) (flags.data.getLsbD 0) s
      else judgeMiss p .check s := by
  have hgood : ¬ ([echo, counts, flags, high, low].map LineSegment.char).any (fun c => c.marker || !c.stop) = true := fun hany => by
    obtain ⟨c, hc, hbad⟩ := List.any_eq_true.1 hany
    obtain ⟨u, hu, rfl⟩ := List.mem_map.1 hc
    exact h ⟨u, hu, by simpa [LineSegment.char] using hbad⟩
  have hcheck : crc16Bytes [echo.data, counts.data, flags.data] = [high.data, low.data] ↔
      high.data = (crc16 [echo.data, counts.data, flags.data]).extractLsb' 8 8 ∧
        low.data = (crc16 [echo.data, counts.data, flags.data]).extractLsb' 0 8 := by
    rw [crc16Bytes, List.cons.injEq, List.cons.injEq]
    simp [eq_comm]
  have hecho : echo.data = byteOf (addressOf p) ↔ echo.data.toNat = addressOf p := by
    rw [← BitVec.toNat_inj, byteOf, BitVec.toNat_ofNat, Nat.mod_eq_of_lt (by simp only [addressOf]; omega)]
  refine (if_neg hgood).trans ?_
  simp only [LineSegment.char]
  by_cases hc : crc16Bytes [echo.data, counts.data, flags.data] = [high.data, low.data]
  · obtain ⟨hhigh, hlow⟩ := hcheck.1 hc
    refine (if_neg (not_not.2 hc)).trans ?_
    by_cases he : echo.data = byteOf (addressOf p)
    · exact (if_neg (not_not.2 he)).trans (if_pos ⟨hhigh, hlow, hecho.1 he⟩).symm
    · exact (if_pos he).trans (if_neg fun h => he (hecho.2 h.2.2)).symm
  · exact (if_pos hc).trans (if_neg fun h => hc (hcheck.2 ⟨h.1, h.2.1⟩)).symm

end

/-! ### A miss (R136 to R139, R166) -/

theorem endReception_congr {s : State} {x : Slot} (h : Awaiting s x) {judge judge' : PodId → State → State}
    (hsame : judge x.pod (s.slotJudged x) = judge' x.pod (s.slotJudged x)) : endReception judge s = endReception judge' s := by
  rw [endReception_of_awaiting h, endReception_of_awaiting h, hsame]

theorem State.muted_judgedAs (s : State) (x : Slot) (f : Pod → Pod) (cs : CategorySet) (p : PodId) :
    (s.judgedAs x f cs).muted p = ((s.slotJudged x).modPod x.pod f).muted p := by
  rw [State.judgedAs, State.muted_noticed, muted_holdEvent]

/-- A flag stays when the hold set of its channel has lost nothing (R21). -/
theorem flagLeft_of_held {s t : State} {p : PodId} (h : s.muted p = true → t.muted p = true) :
    flagLeft s t p = (s.pod p).mutedTalk := by
  have hnone : (s.muted p && t.unmuted p) = false := by
    cases hs : s.muted p with
    | false => rfl
    | true => rw [State.unmuted_eq, h hs, Bool.not_true, Bool.and_false, Bool.and_false]
  rw [flagLeft, hnone, Bool.not_false, Bool.and_true]

/-- A miss takes no hold away (R138). -/
theorem Pod.holds_missed (pod : Pod) (kind : Miss) (missLimit : Nat) (h : pod.holds.any = true) :
    (pod.missed kind missLimit).holds.any = true := by
  simp only [Pod.missed]
  split
  · simp [HoldSet.any]
  · exact h

end Sys2Proof.Machine

open Sys2Proof Sys2Proof.Machine

/-- Settles O41: each way to miss is the judgement of a miss of its kind, which changes the record of its pod alone. -/
theorem missJudged : Obligations.MissJudged := by
  unfold Obligations.MissJudged
  intro s x c kind hs _ ha hc
  have hexec : exec c s = .next (endReception (fun p => judgeMiss p kind) s) := by
    rcases hc with ⟨rfl, rfl⟩ | ⟨l1, l2, l3, l4, l5, tail, echo, counts, flags, high, low, rfl, hline, hmiss⟩
    · rfl
    · rw [exec_replyComplete_of_five hline]
      refine congrArg _ (endReception_congr ha ?_)
      rcases hmiss with ⟨hframing, rfl⟩ | ⟨hframed, rfl, hdiffers⟩
      · exact judgeChars_framing _ _ _ _ _ _ _ hframing
      · refine (judgeChars_framed _ _ _ _ _ _ _ hframed).trans (if_neg ?_)
        tauto
  rw [endReception_missed ha] at hexec
  generalize hcs : onlyIf _ _ ||| onlyIf _ _ = cs at hexec
  have hpod := State.pod_judgedAs (f := fun pod => pod.missed kind s.tuning.missLimit) (x := x) cs rfl hs
  have hframe := State.judgedAs_frame (f := fun pod => pod.missed kind s.tuning.missLimit) (x := x) cs rfl hs
  have hheld : s.muted x.pod = true → (s.judgedAs x (fun pod => pod.missed kind s.tuning.missLimit) cs).muted x.pod = true := by
    rw [State.muted_judgedAs, State.muted, State.muted, State.pod_modPod_slotJudged, if_pos rfl, State.privacy_modPod,
      State.privacy_slotJudged, Bool.and_eq_true, Bool.and_eq_true, Bool.or_eq_true, Bool.or_eq_true]
    exact fun ⟨hl, hor⟩ => ⟨hl, hor.imp_left (Pod.holds_missed _ _ _)⟩
  generalize s.judgedAs x _ cs = t at *
  refine ⟨t, hexec, fun p => ?_, ?_⟩
  · rw [hpod p]
    split
    · next hp =>
      subst hp
      rw [flagLeft_of_held hheld]
      cases kind <;> simp [Pod.missed, Pod.counter, FaultRecord.report, entersLost, bump]
    · rfl
  · rw [← hcs, BitVec.or_assoc, BitVec.or_comm (onlyIf _ .faults), ← BitVec.or_assoc,
      Bool.or_comm (_ && !(s.pod x.pod).podLost.latch)] at hframe
    cases kind <;> exact hframe

end

section
open Sys2Proof.Machine
namespace Sys2Proof.Machine

/-! ### A good reply (R140, R141, R143, R166) -/

/-- The presses that a count gives are its difference modulo 16 to the baseline, and none without one (R141). -/
theorem pressesSince_eq {n b : Nat} (hn : n < 16) (hb : b ≤ 15) : pressesSince (some b) n = (((n : Int) - b) % 16).toNat := by
  simp only [pressesSince]
  omega

/-- The record after a good reply of a pod that is listed (Table 8-2, R141). -/
theorem Pod.replied_of_listed {pod : Pod} (h : pod.linked) (hl : pod.listed = true) {short long : Nat} (hshort : short < 16)
    (hlong : long < 16) (fault flag : Bool) :
    let base := pod.baselines.getD ⟨short, long⟩
    ({ pod.replied short long fault with mutedTalk := flag } : Pod) = { pod with
      link := .online, misses := 0, baselines := some ⟨short, long⟩, localFault := fault
      shortDue := ((((short : Int) - base.short) % 16).toNat), longDue := ((((long : Int) - base.long) % 16).toNat)
      holds := if pod.link == .seeking || pod.link == .lost then { pod.holds with link := false } else pod.holds
      mutedTalk := flag
      podLost := if pod.link = .lost then { pod.podLost with condition := false } else pod.podLost
      podLocal := if fault then ⟨true, true⟩ else { pod.podLocal with condition := false } } := by
  obtain ⟨-, hmet, hbase, -, hrange, -⟩ := h
  have hlink := (hmet hl).1
  have hreach : pod.baselines.isSome = true ↔ pod.link = .online ∨ pod.link = .doubtful := hbase
  have hheld : (pod.link == .seeking || pod.link == .lost) = !decide (pod.link = .online ∨ pod.link = .doubtful) := by
    cases hc : pod.link with
    | unlisted => exact absurd hc hlink
    | _ => rfl
  dsimp only
  rw [hheld]
  by_cases hm : pod.link = .online ∨ pod.link = .doubtful
  · obtain ⟨b, hb⟩ := Option.isSome_iff_exists.1 (hreach.2 hm)
    obtain ⟨hs, hlo⟩ := hrange b hb
    simp [Pod.replied, hm, hb, pressesSince_eq hshort hs, pressesSince_eq hlong hlo, FaultRecord.report]
  · have hnone : pod.baselines = none := by
      rw [← Option.not_isSome_iff_eq_none, hreach]
      exact hm
    simp [Pod.replied, hm, hnone, FaultRecord.report]

/-- A good reply adds no hold. -/
theorem Pod.holds_replied (pod : Pod) (short long : Nat) (fault : Bool) (h : (pod.replied short long fault).holds.any = true) :
    pod.holds.any = true := by
  revert h
  simp only [Pod.replied]
  split
  · exact id
  · simp only [HoldSet.any]
    cases pod.holds.pod <;> cases pod.holds.room <;> cases pod.holds.call <;> simp

/-- No entry leaves the talker list when no channel is muted anew (R21). -/
theorem talkersLeft_of_muted {s t : State} (h : ∀ p, t.muted p = true → s.muted p = true) : talkersLeft s t = s.talkers := by
  refine List.filter_eq_self.2 fun e _ => ?_
  cases ht : t.muted e.pod with
  | false => simp
  | true => rw [State.unmuted_eq, h _ ht]; simp

end Sys2Proof.Machine

open Sys2Proof Sys2Proof.Machine

/-- Settles O40: five good characters whose check and echo fit are the judgement of a reply, which changes the record of its
pod alone. -/
theorem goodReplyJudged : Obligations.GoodReplyJudged := by
  unfold Obligations.GoodReplyJudged
  intro s x a b c d e tail echo counts flags high low hs hlink ha hline hgood hecho hhigh hlow
  have hframed : ¬ ∃ u ∈ [echo, counts, flags, high, low], u.marker = true ∨ u.stop = false := by
    rintro ⟨u, hu, hbad⟩
    have := hgood u hu
    rw [LineSegment.good, Bool.and_eq_true, Bool.not_eq_true'] at this
    rcases hbad with h | h <;> simp [h] at this
  have hexec : exec (.replyComplete a b c d e) s = .next (endReception
      (fun p => judgeReply p (counts.data.toNat % 16) (counts.data.toNat / 16) (flags.data.getLsbD 0)) s) := by
    rw [exec_replyComplete_of_five hline]
    exact congrArg _ (endReception_congr ha ((judgeChars_framed _ _ _ _ _ _ _ hframed).trans (if_pos ⟨hhigh, hlow, hecho⟩)))
  have hshort : counts.data.toNat % 16 < 16 := Nat.mod_lt _ (by decide)
  have hlong : counts.data.toNat / 16 < 16 := by have := counts.data.isLt; omega
  rw [endReception_replied ha] at hexec
  generalize hcs : onlyIf _ _ ||| onlyIf _ _ = cs at hexec
  generalize counts.data.toNat % 16 = short at *
  generalize counts.data.toNat / 16 = long at *
  generalize flags.data.getLsbD 0 = fault at *
  have hpod := State.pod_judgedAs (f := fun pod => pod.replied short long fault) (x := x) cs rfl hs
  have hframe := State.judgedAs_frame (f := fun pod => pod.replied short long fault) (x := x) cs rfl hs
  have htalkers : talkersLeft s (s.judgedAs x (fun pod => pod.replied short long fault) cs) = s.talkers := by
    refine talkersLeft_of_muted fun p => ?_
    rw [State.muted_judgedAs, State.muted, State.muted, State.pod_modPod_slotJudged, State.privacy_modPod,
      State.privacy_slotJudged, Bool.and_eq_true, Bool.and_eq_true, Bool.or_eq_true, Bool.or_eq_true]
    split
    · exact fun ⟨hl, hor⟩ => ⟨hl, hor.imp_left (Pod.holds_replied _ _ _ _)⟩
    · exact id
  generalize s.judgedAs x _ cs = t at *
  have hlisted : (s.pod x.pod).listed = true := hlink.2 x ha.slot ha.judged ha.discard
  refine ⟨t, hexec, fun p => ?_, ?_⟩
  · rw [hpod p]
    split
    · next hp =>
      subst hp
      rw [Pod.replied_of_listed (hlink.1 _) hlisted hshort hlong]
    · rfl
  · rw [htalkers, ← hcs, BitVec.or_assoc, BitVec.or_comm (onlyIf _ .faults), ← BitVec.or_assoc, Bool.or_comm (FaultRecord.reportNotice _ _)] at hframe
    simp only [FaultRecord.reportNotice, Bool.false_eq_true, if_false, ← Bool.and_assoc] at hframe
    exact hframe

end

section
open Sys2Proof.Machine
namespace Sys2Proof.Machine

/-! ### The start of a slot (R131) -/

theorem find_allPods_lowest {f : PodId → Bool} {p : PodId} (hp : f p = true) (hlow : ∀ k, f k = true → p ≤ k) :
    allPods.find? f = some p := by
  rw [allPods, ← Fin.find?_eq_find?_finRange, Fin.find?_eq_some_iff]
  exact ⟨hp, fun k hk => by
    by_contra hk'
    exact absurd (hlow k (by simpa using hk')) (not_le.2 hk)⟩

theorem State.nextPolled_of_next {s : State} {p : PodId} (h : s.nextSlotIs p) : s.nextPolled = some p := by
  obtain ⟨hp, ⟨habove, hlow⟩ | ⟨hbelow, hlow⟩⟩ := h
  · rw [State.nextPolled, find_allPods_lowest (p := p)]
    · simp [hp, habove]
    · intro k hk
      rw [Bool.and_eq_true, decide_eq_true_iff] at hk
      exact hlow k hk.1 hk.2
  · have hnone : (allPods.find? fun p => (s.pod p).listed && decide (s.lastPolled < addressOf p)) = none := by
      refine List.find?_eq_none.2 fun k _ hk => ?_
      rw [Bool.and_eq_true, decide_eq_true_iff] at hk
      exact absurd (hbelow k hk.1) (not_le.2 hk.2)
    rw [State.nextPolled, hnone]
    exact find_allPods_lowest hp hlow

theorem State.nextPolled_of_unlisted {s : State} (h : ∀ p, (s.pod p).listed = false) : s.nextPolled = none := by
  have hnever : allPods.find? (fun _ => false) = none := List.find?_eq_none.2 fun _ _ => Bool.false_ne_true
  simp only [State.nextPolled, h, Bool.false_and, hnever]

/-- The next slot rests on the listings and the last-polled address (R131). -/
theorem State.nextPolled_congr {s t : State} (listed : ∀ p, (t.pod p).listed = (s.pod p).listed)
    (last : t.lastPolled = s.lastPolled) : t.nextPolled = s.nextPolled := by
  simp only [State.nextPolled, listed, last]

section
variable {s : State} (hjudged : ∀ x ∈ s.slot, x.judged = true)
include hjudged

/-- With the slot before judged, the presses of the next pod are delivered and its slot begins (R131, R142). -/
theorem exec_slotStart_of_next {p : PodId} (h : s.nextPolled = some p) :
    exec .slotStart s = .next ((deliverAll p s).beginSlot p).settle := by
  have hexec : exec .slotStart s = finish (startSlot s) := rfl
  rw [hexec, startSlot, endReception_of_judged hjudged, finish]
  rw [h]

theorem exec_slotStart_of_none (h : s.nextPolled = none) :
    exec .slotStart s = .next ({ s with slot := none, lastPolled := 0 } : State).settle := by
  have hexec : exec .slotStart s = finish (startSlot s) := rfl
  rw [hexec, startSlot, endReception_of_judged hjudged, finish]
  rw [h]

end

/-- What the delivery of a press leaves of the slot and of the listings. -/
structure Delivers (s t : State) : Prop where
  slot : t.slot = s.slot
  last : t.lastPolled = s.lastPolled
  listed : ∀ p, (t.pod p).listed = (s.pod p).listed

theorem Delivers.deliverShort (s : State) (p : PodId) : Delivers s (deliverShort p s) where
  slot := by rw [deliverShort_eq, holdEvent_eq, State.afterShort_eq]
  last := by rw [deliverShort_eq, holdEvent_eq, State.afterShort_eq]
  listed := fun k => (pod_deliverShort p k s).1

theorem Delivers.deliverLong (s : State) (p : PodId) : Delivers s (deliverLong p s) where
  slot := by rw [deliverLong_eq, holdEvent_eq, State.afterLong_eq]; rfl
  last := by rw [deliverLong_eq, holdEvent_eq, State.afterLong_eq]; rfl
  listed := fun k => pod_deliverLong p k s

/-- A press delivered before the slot is one that the start of the slot need not deliver (R142). -/
theorem Delivers.exec_slotStart {s t : State} (h : Delivers s t) (hjudged : ∀ x ∈ s.slot, x.judged = true) {p : PodId}
    (hnext : s.nextSlotIs p) (hsame : deliverAll p s = deliverAll p t) : exec .slotStart s = exec .slotStart t := by
  have hs := State.nextPolled_of_next hnext
  have ht : t.nextPolled = some p := (State.nextPolled_congr h.listed h.last).trans hs
  rw [exec_slotStart_of_next hjudged hs, exec_slotStart_of_next (by rw [h.slot]; exact hjudged) ht, hsame]

section
variable (s : State) (p : PodId)

theorem deliverAll_of_none (hshort : (s.pod p).shortDue = 0) (hlong : (s.pod p).longDue = 0) : deliverAll p s = s := by
  simp only [deliverAll, hshort, repeatState, hlong]

theorem deliverAll_deliverShort (h : 0 < (s.pod p).shortDue) : deliverAll p s = deliverAll p (deliverShort p s) := by
  obtain ⟨n, hn⟩ := Nat.exists_eq_add_of_lt h
  have hrest : ((deliverShort p s).pod p).shortDue = n := by
    rw [(pod_deliverShort p p s).2, if_pos rfl]; omega
  have hdue : (s.pod p).shortDue = n + 1 := by omega
  simp only [deliverAll, hdue, hrest, repeatState]

theorem deliverAll_deliverLong (hshort : (s.pod p).shortDue = 0) (h : 0 < (s.pod p).longDue) :
    deliverAll p s = deliverAll p (deliverLong p s) := by
  obtain ⟨n, hn⟩ := Nat.exists_eq_add_of_lt h
  have hrest : ((deliverLong p s).pod p).longDue = n ∧ ((deliverLong p s).pod p).shortDue = 0 := by
    rw [deliverLong_eq, (HoldChange.afterLong s p).pod_eq, State.pod_afterLong]
    simp only [Pod.following, if_true]
    exact ⟨by omega, hshort⟩
  have hdue : (s.pod p).longDue = n + 1 := by omega
  simp only [deliverAll, hshort, hdue, hrest.1, hrest.2, repeatState]

/-- A slot that begins leaves nothing to recompute (log 7). -/
theorem State.settle_beginSlot {s : State} (h : s.settled) : (s.beginSlot p).settle = { s with
    lastPolled := addressOf p, slot := some ⟨p, pollLevels p (s.pod p).pattern, false, false⟩ } := by
  have hsettled : (s.beginSlot p).settled := State.settled_of_rooms h rfl rfl rfl rfl
  refine hsettled.trans ?_
  rw [State.beginSlot, drive_pollOf]

end

end Sys2Proof.Machine

open Sys2Proof Sys2Proof.Machine

/-- Settles O39: what is overdue is taken first, a judgement or a press, and then the slot begins. -/
theorem slotStartPollsTheNextPod : Obligations.SlotStartPollsTheNextPod := by
  unfold Obligations.SlotStartPollsTheNextPod
  intro s hs hjudged
  refine ⟨fun hnone => ?_, fun p hnext => ⟨fun hshort hlong => ?_, fun hdue => ?_, fun hshort hdue => ?_⟩,
    fun s0 x hx hj hcloses => ?_⟩
  · rw [exec_slotStart_of_none hjudged (State.nextPolled_of_unlisted hnone)]
    exact congrArg _ (State.settled_of_rooms hs rfl rfl rfl rfl)
  · rw [exec_slotStart_of_next hjudged (State.nextPolled_of_next hnext), deliverAll_of_none s p hshort hlong,
      State.settle_beginSlot p hs]
  · refine ⟨_, exec_shortPress_of_due s p hdue, ?_⟩
    rw [← deliverShort_eq]
    exact (Delivers.deliverShort s p).exec_slotStart hjudged hnext (deliverAll_deliverShort s p hdue)
  · refine ⟨_, exec_longPress_of_due s p hshort hdue, ?_⟩
    rw [← deliverLong_eq]
    exact (Delivers.deliverLong s p).exec_slotStart hjudged hnext (deliverAll_deliverLong s p hshort hdue)
  · have hclosed : endReception (fun p => judgeMiss p .timeout) s0 = s := Host.Outcome.next.inj hcloses
    have hexec (u : State) : exec .slotStart u = finish (startSlot u) := rfl
    rw [hexec, hexec, startSlot, startSlot, hclosed, endReception_of_judged hjudged]

end

section
/-! What a profile load leaves of the records, the tables and the ports (R180). -/

namespace Sys2Proof.Machine

/-! ### Records that differ in what follows alone (R56, R58, R68) -/

/-- Two pod records that differ in gate state, flag copy and indicator entry alone. -/
def Pod.Alike (a b : Pod) : Prop := ∃ g c x, a = { b with gate := g, flagCopy := c, pattern := x }

theorem Pod.Alike.refl (a : Pod) : a.Alike a := ⟨_, _, _, rfl⟩

/-- What follows from the state around it is all that tells two such records apart. -/
theorem Pod.Alike.following {a b : Pod} (h : a.Alike b) (t : State) (p : PodId) : a.following t p = b.following t p := by
  obtain ⟨g, c, x, rfl⟩ := h
  rfl

theorem Pod.Alike.trans {a b c : Pod} (hab : a.Alike b) (hbc : b.Alike c) : a.Alike c := by
  obtain ⟨_, _, _, rfl⟩ := hab
  obtain ⟨_, _, _, rfl⟩ := hbc
  exact ⟨_, _, _, rfl⟩

theorem State.alike_settle (s : State) (p : PodId) : (s.settle.pod p).Alike (s.pod p) := ⟨_, _, _, s.pod_settle p⟩

/-- The slot that a listing begins changes no more of a pod record than what follows (R131). -/
theorem State.alike_beginFirstSlot (before after : State) (p : PodId) : ((beginFirstSlot before after).pod p).Alike (after.pod p) := by
  unfold beginFirstSlot
  split
  · split
    · exact Pod.Alike.refl _
    · rw [State.pod_beginSlot]
      exact after.alike_settle p
  · exact Pod.Alike.refl _

theorem State.leg_beginSlot (s : State) (p : PodId) (m : LegId) : (s.beginSlot p).leg m = s.leg m := rfl

theorem State.leg_beginFirstSlot (before after : State) (m : LegId) : (beginFirstSlot before after).leg m = after.leg m := by
  unfold beginFirstSlot
  split
  · split
    · rfl
    · rw [State.leg_beginSlot, State.leg_settle]
  · rfl

/-! ### The roster (R6, R7, R180) -/

section
variable (s : State) (named : PodSet) (p : PodId)

theorem State.pod_listPods : ((s.listPods named).pod p).Alike
    (if PodSet.has named p && !(s.pod p).listed then (s.pod p).list else s.pod p) := by
  refine (State.alike_beginFirstSlot _ _ p).trans ?_
  rw [State.pod_raiseIf, State.pod_raiseIf, State.pod_mapPods]
  exact Pod.Alike.refl _

theorem State.pod_unlistPods : (s.unlistPods named).pod p =
    if PodSet.has named p && (s.pod p).listed then (s.pod p).unlist else s.pod p := by
  obtain ⟨_, _, _, _, h⟩ := s.unlistPods_eq named
  rw [h, State.pod_raiseIf, State.pod_raiseIf, State.pod_raiseIf, State.pod_raiseIf, State.pod_unlisted]

/-- A pod record once the loaded roster is listed (R6, R7). -/
def State.rosteredPod : Pod :=
  if PodSet.has s.loadedRoster p then (if (s.pod p).listed then s.pod p else (s.pod p).list)
  else if (s.pod p).listed then (s.pod p).unlist else s.pod p

/-- The roster of a load: pods are listed, and others unlisted. -/
def State.rostered : State := (s.listPods s.loadedRoster).unlistPods (~~~s.loadedRoster)

theorem State.pod_rostered : (s.rostered.pod p).Alike (s.rosteredPod p) := by
  have hlisted := s.listed_listPods s.loadedRoster p
  obtain ⟨g, c, x, hpod⟩ := s.pod_listPods s.loadedRoster p
  rw [State.rostered, State.pod_unlistPods, PodSet.has_not, hlisted, hpod, State.rosteredPod]
  cases PodSet.has s.loadedRoster p <;> cases hl : (s.pod p).listed <;> exact ⟨_, _, _, rfl⟩

theorem State.listed_rostered : (s.rostered.pod p).listed = PodSet.has s.loadedRoster p := by
  rw [State.rostered, State.listed_unlistPods, State.listed_listPods, PodSet.has_not, Bool.not_not]
  cases PodSet.has s.loadedRoster p <;> simp

theorem State.loadRoster_eq : s.loadRoster =
    ((s.rostered.mapPods fun p pod => { pod with chair := PodSet.has s.loadedChairs p, cls := s.loadedClass p }).withTalkers
      (s.rostered.talkers.map fun e : Talker => { e with cls := s.loadedClass e.pod })).raiseIf
      (allPods.any fun p => (s.pod p).chair != PodSet.has s.loadedChairs p || (s.pod p).cls != s.loadedClass p) .pods := by
  unfold State.loadRoster
  dsimp only
  rw [State.talkers_mapPods]
  rfl

theorem State.pod_loadRoster : (s.loadRoster.pod p).Alike
    { s.rosteredPod p with chair := PodSet.has s.loadedChairs p, cls := s.loadedClass p } := by
  obtain ⟨g, c, x, hpod⟩ := s.pod_rostered p
  rw [State.loadRoster_eq, State.pod_raiseIf, State.pod_withTalkers, State.pod_mapPods, hpod]
  exact ⟨_, _, _, rfl⟩

end

/-! ### What a load reads stays as it goes on (R180) -/

namespace TablesOnly

variable {s t : State} (h : TablesOnly s t)
include h

theorem store : t.store = s.store := by rw [h]
theorem commitMap : t.commitMap = s.commitMap := by rw [h]
theorem committed (n : Nat) : t.committed n = s.committed n := by rw [State.committed, h.commitMap, State.committed]
theorem loadedTrim (p : PodId) : t.loadedTrim p = s.loadedTrim p := by rw [State.loadedTrim, h.committed, h.store, State.loadedTrim]
theorem loadedVolume (p : PodId) : t.loadedVolume p = s.loadedVolume p := by
  rw [State.loadedVolume, h.committed, h.store, State.loadedVolume]
theorem loadedExclusion (p : PodId) : t.loadedExclusion p = s.loadedExclusion p := by
  rw [State.loadedExclusion, h.committed, h.store, State.loadedExclusion]
theorem loadedLegGain (m : LegId) : t.loadedLegGain m = s.loadedLegGain m := by
  rw [State.loadedLegGain, h.committed, h.store, State.loadedLegGain]
theorem loadedParam (x : Param) : t.loadedParam x = s.loadedParam x := by
  rw [State.loadedParam, h.committed, h.store, State.loadedParam]

end TablesOnly

/-! ### The parameters (R13, R15, R180) -/

section
variable (s : State) (x : Param) (v : Nat) (p : PodId) (m : LegId)

theorem State.pod_tune : (s.tune x v).pod p = s.pod p := by
  by_cases h : s.tuning.get x = v
  · rw [State.tune, if_pos h]
  · rw [State.tune_of_ne h, State.pod_raiseIf]
    rfl

theorem State.leg_tune : (s.tune x v).leg m = s.leg m := by
  by_cases h : s.tuning.get x = v
  · rw [State.tune, if_pos h]
  · rw [State.tune_of_ne h, State.leg_raiseIf]
    rfl

theorem State.tuning_tune : (s.tune x v).tuning = s.tuning.set x v := by
  by_cases h : s.tuning.get x = v
  · rw [State.tune, if_pos h, ← h, Tuning.set_get]
  · rw [State.tune_of_ne h, State.tuning_raiseIf]
    rfl

theorem State.slot_tune : (s.tune x v).slot = s.slot ∧ (s.tune x v).lastPolled = s.lastPolled := by
  by_cases h : s.tuning.get x = v
  · rw [State.tune, if_pos h]
    exact ⟨rfl, rfl⟩
  · rw [State.tune_of_ne h, State.slot_raiseIf, State.lastPolled_raiseIf]
    exact ⟨rfl, rfl⟩

theorem State.talkers_tune_of_empty (h : s.talkers = []) : (s.tune x v).talkers = [] := by
  by_cases hv : s.tuning.get x = v
  · rw [State.tune, if_pos hv, h]
  · rw [State.tune_of_ne hv, State.talkers_raiseIf, State.tuned]
    dsimp only
    cases x <;> simp [State.talkersTuned, h, limitCut]

theorem State.talkers_tune_of_ne (hlimit : x ≠ .openLimit) (hlast : x ≠ .lastOn) : (s.tune x v).talkers = s.talkers := by
  by_cases hv : s.tuning.get x = v
  · rw [State.tune, if_pos hv]
  · rw [State.tune_of_ne hv, State.talkers_raiseIf]
    exact State.talkersTuned_of_ne hlimit hlast

end

/-- The parameters of a list take their loaded values in turn. -/
def State.tuneAll (s : State) (value : Param → Nat) (xs : List Param) : State := xs.foldl (fun u x => u.tune x (value x)) s

theorem State.tuneAll_cons (s : State) (value : Param → Nat) (x : Param) (xs : List Param) :
    s.tuneAll value (x :: xs) = (s.tune x (value x)).tuneAll value xs := rfl

theorem State.tuneAll_append (s : State) (value : Param → Nat) (xs ys : List Param) :
    s.tuneAll value (xs ++ ys) = (s.tuneAll value xs).tuneAll value ys := List.foldl_append

theorem State.loadTuning_eq (s : State) : s.loadTuning = s.tuneAll s.loadedParam loadOrder := by
  unfold State.loadTuning State.tuneAll
  generalize loadOrder = xs
  have hsame : ∀ (u : State), u.loadedParam = s.loadedParam →
      xs.foldl (fun u x => u.tune x (u.loadedParam x)) u = xs.foldl (fun u x => u.tune x (s.loadedParam x)) u := by
    induction xs with
    | nil => exact fun _ _ => rfl
    | cons x xs ih =>
      intro u hu
      have hnext : (u.tune x (s.loadedParam x)).loadedParam = s.loadedParam :=
        (funext (TablesOnly.tune u x _).loadedParam).trans hu
      rw [List.foldl_cons, List.foldl_cons, hu, ih _ hnext]
  exact hsame s rfl

section
variable (s : State) (value : Param → Nat) (xs : List Param)

/-- A quantity that no parameter changes stays through all of them. -/
theorem State.tuneAll_keeps {α : Type} (f : State → α) (h : ∀ (u : State) (x : Param), x ∈ xs → f (u.tune x (value x)) = f u) :
    f (s.tuneAll value xs) = f s := by
  induction xs generalizing s with
  | nil => rfl
  | cons x xs ih =>
    rw [State.tuneAll_cons, ih _ fun u y hy => h u y (List.mem_cons_of_mem _ hy), h s x List.mem_cons_self]

theorem State.pod_tuneAll (p : PodId) : (s.tuneAll value xs).pod p = s.pod p :=
  s.tuneAll_keeps value xs (fun u => u.pod p) fun u x _ => u.pod_tune x _ p

theorem State.leg_tuneAll (m : LegId) : (s.tuneAll value xs).leg m = s.leg m :=
  s.tuneAll_keeps value xs (fun u => u.leg m) fun u x _ => u.leg_tune x _ m

theorem State.slot_tuneAll : (s.tuneAll value xs).slot = s.slot :=
  s.tuneAll_keeps value xs State.slot fun u x _ => (u.slot_tune x _).1

theorem State.lastPolled_tuneAll : (s.tuneAll value xs).lastPolled = s.lastPolled :=
  s.tuneAll_keeps value xs State.lastPolled fun u x _ => (u.slot_tune x _).2

theorem State.talkers_tuneAll_of_ne (h : ∀ x ∈ xs, x ≠ .openLimit ∧ x ≠ .lastOn) : (s.tuneAll value xs).talkers = s.talkers :=
  s.tuneAll_keeps value xs State.talkers fun u x hx => u.talkers_tune_of_ne x _ (h x hx).1 (h x hx).2

theorem State.talkers_tuneAll_of_empty (h : s.talkers = []) : (s.tuneAll value xs).talkers = [] := by
  induction xs generalizing s with
  | nil => exact h
  | cons x xs ih => exact ih _ (s.talkers_tune_of_empty x _ h)

/-- Each parameter of the list holds its value in the end, and the others hold theirs. -/
theorem State.tuning_tuneAll (hvalue : ∀ x, value x ≤ x.range.2) (y : Param) :
    (s.tuneAll value xs).tuning.get y = if y ∈ xs then value y else s.tuning.get y := by
  induction xs generalizing s with
  | nil => rfl
  | cons x xs ih =>
    rw [State.tuneAll_cons, ih, State.tuning_tune]
    by_cases hy : y ∈ xs
    · rw [if_pos hy, if_pos (List.mem_cons_of_mem _ hy)]
    · rw [if_neg hy]
      by_cases hxy : y = x
      · subst hxy
        rw [if_pos List.mem_cons_self, Tuning.get_set_self _ _ (hvalue y)]
      · rw [if_neg (by simp [hxy, hy]), Tuning.get_set_ne _ _ hxy]

end

theorem mem_loadOrder (x : Param) : x ∈ loadOrder := by cases x <;> decide

/-- Two tunings that hold the same values are the same. -/
theorem Tuning.ext_get {a b : Tuning} (h : ∀ x, a.get x = b.get x) : a = b := by
  cases a
  cases b
  have hx := fun x => h x
  simp only [Tuning.mk.injEq]
  exact ⟨hx .openLimit, hx .marginShift, hx .absThreshold, hx .gateHold, hx .attack, hx .release, hx .offGain, hx .lastOn,
    hx .muteRamp, hx .reinforce, hx .presence, hx .missLimit, hx .podOverride, BitVec.eq_of_toNat_eq (hx .flush), hx .startPrivate⟩

/-! ### The load (R180) -/

section
variable (s : State) (p : PodId) (m : LegId)

/-- A pod record after a load, but for what follows (R180). -/
def State.loadedPod : Pod :=
  { (s.rosteredPod p).setTrim (s.loadedTrim p) with
    chair := PodSet.has s.loadedChairs p, cls := s.loadedClass p
    excl := s.loadedExclusion p, volume := s.loadedVolume p }

theorem State.pod_load : (s.load.pod p).Alike (s.loadedPod p) := by
  have honly := TablesOnly.loadRoster s
  obtain ⟨g, c, x, hpod⟩ := s.pod_loadRoster p
  rw [State.load, State.loadTuning_eq, State.pod_tuneAll, State.loadGains, State.pod_mapLegs, State.pod_mapPods, hpod,
    honly.loadedTrim, honly.loadedExclusion, honly.loadedVolume]
  exact ⟨_, _, _, rfl⟩

theorem State.listed_load : (s.load.pod p).listed = PodSet.has s.loadedRoster p := by
  obtain ⟨g, c, x, hpod⟩ := s.pod_load p
  rw [hpod, State.loadedPod, State.rosteredPod]
  cases PodSet.has s.loadedRoster p <;> cases hl : (s.pod p).listed <;> simp [Pod.setTrim, Pod.list, Pod.unlist, hl]

theorem State.leg_load : s.load.leg m = { s.leg m with gain := s.loadedLegGain m } := by
  have honly := TablesOnly.loadRoster s
  have hleg : s.loadRoster.leg m = s.leg m := by
    have hlist : (s.listPods s.loadedRoster).leg m = s.leg m := by
      refine (State.leg_beginFirstSlot _ _ m).trans ?_
      rw [State.leg_raiseIf, State.leg_raiseIf, State.leg_mapPods]
    obtain ⟨_, _, _, _, h⟩ := (s.listPods s.loadedRoster).unlistPods_eq (~~~s.loadedRoster)
    rw [State.loadRoster_eq, State.leg_raiseIf, State.leg_withTalkers, State.leg_mapPods, State.rostered, h]
    rw [State.leg_raiseIf, State.leg_raiseIf, State.leg_raiseIf, State.leg_raiseIf, State.leg_unlisted, hlist]
  rw [State.load, State.loadTuning_eq, State.leg_tuneAll, State.loadGains, State.leg_mapLegs, State.leg_mapPods, hleg,
    honly.loadedLegGain]

theorem State.tuning_load (x : Param) : s.load.tuning.get x = s.loadedParam x := by
  have honly : TablesOnly s s.loadRoster.loadGains := (TablesOnly.loadRoster s).trans (TablesOnly.loadGains _)
  rw [State.load, State.loadTuning_eq, State.tuning_tuneAll _ _ _ (fun x => (State.loadedParam_range _ x).2), if_pos (mem_loadOrder x),
    honly.loadedParam]

end

end Sys2Proof.Machine
end

section
/-! The notices of a profile load (R158, R180), and what the load leaves of the talker list. -/

namespace Sys2Proof.Machine

/-! ### Notices at every port -/

/-- The ports of `t` are those of `s` after notices of these categories, but for attention lines still to follow (R158, R160). -/
def State.Raises (s t : State) (cs : CategorySet) : Prop := ∀ q, (t.port q).refreshed = ((s.port q).refreshed).noticed cs

theorem Port.noticed_zero (port : Port) : port.refreshed.noticed 0 = port.refreshed := by
  unfold Port.noticed
  split
  · simp [Port.refreshed, Port.wantsAttention]
  · rfl

namespace State.Raises

variable {s t u : State} {cs ds : CategorySet}

theorem of_ports (h : ∀ q, (t.port q).refreshed = (s.port q).refreshed) : s.Raises t 0 := fun q => by
  rw [h q, Port.noticed_zero]

theorem trans (hst : s.Raises t cs) (htu : t.Raises u ds) : s.Raises u (ds ||| cs) := fun q => by
  rw [htu q, hst q, Port.noticed_noticed]

/-- A change that leaves the ports raises nothing. -/
theorem ports (hst : s.Raises t cs) (h : ∀ q, (u.port q).refreshed = (t.port q).refreshed) : s.Raises u cs := fun q => by
  rw [h q, hst q]

theorem raiseIf (hst : s.Raises t cs) (b : Bool) (c : Category) : s.Raises (t.raiseIf b c) (onlyIf b c ||| cs) := by
  refine hst.trans fun q => ?_
  cases b with
  | true => rw [State.port_raiseIf, if_pos rfl, Port.refreshed_notify]; rfl
  | false => rw [State.port_raiseIf, if_neg Bool.false_ne_true]; exact (Port.noticed_zero _).symm

theorem of_settle (hu : u.ports = s.ports) (h : t.settle = u.settle.noticed cs) : s.Raises t cs := fun q => by
  have hport : u.port q = s.port q := by rw [State.port, hu, State.port]
  have hleft : t.settle.port q = (t.port q).refreshed := State.port_settle ..
  have hright : u.settle.port q = (s.port q).refreshed := (State.port_settle ..).trans (congrArg Port.refreshed hport)
  rw [← hleft, h, State.noticed, State.port_mapPorts, hright]

/-- The end of an event that has raised these notices alone. -/
theorem settle_eq (h : s.Raises t cs) : t.settle = ({ t with ports := s.ports } : State).settle.noticed cs := by
  have hgate : ∀ p, ({ t with ports := s.ports } : State).gateOf p = t.gateOf p := fun _ => rfl
  have hpattern : ∀ p, ({ t with ports := s.ports } : State).patternOf p = t.patternOf p := fun _ => rfl
  have hpod : ∀ p, ({ t with ports := s.ports } : State).pod p = t.pod p := fun _ => rfl
  have hport : ∀ q, ({ t with ports := s.ports } : State).port q = s.port q := fun _ => rfl
  have hframe : ∀ u : State, u.settle.noticed cs = { u with pods := (u.settle.noticed cs).pods, ports := (u.settle.noticed cs).ports } :=
    fun u => by simp only [State.noticed, State.mapPorts, State.settle, State.mapPods]
  have hleg : ∀ m, ({ t with ports := s.ports } : State).leg m = t.leg m := fun _ => rfl
  refine State.ext_records (fun p => ?_) (fun m => ?_) (fun q => ?_) ?_
  · rw [State.pod_noticed, State.pod_settle, State.pod_settle, hgate, hpattern, hpod]
  · rw [State.leg_noticed, State.leg_settle, State.leg_settle, hleg]
  · rw [State.noticed, State.port_mapPorts, State.port_settle, State.port_settle, hport]
    exact h q
  · rw [hframe, t.settle_eq]

end State.Raises

/-! ### The notices of the roster and of the parameters -/

/-- The pods that a load lists (R6). -/
def State.newlyLoaded (s : State) (p : PodId) : Bool := PodSet.has s.loadedRoster p && !(s.pod p).listed

/-- The pods that a load unlists (R7). -/
def State.goneLoaded (s : State) (p : PodId) : Bool := !PodSet.has s.loadedRoster p && (s.pod p).listed

section
variable (s : State)

/-- A pod that a load unlists has its record as before until then. -/
theorem State.pod_listPods_gone {p : PodId} (h : s.goneLoaded p = true) :
    ((s.listPods s.loadedRoster).pod p).Alike (s.pod p) := by
  have hpod := s.pod_listPods s.loadedRoster p
  rw [State.goneLoaded, Bool.and_eq_true, Bool.not_eq_true'] at h
  rwa [h.1, Bool.false_and, if_neg Bool.false_ne_true] at hpod

theorem State.gone_listPods (p : PodId) :
    (PodSet.has (~~~s.loadedRoster) p && ((s.listPods s.loadedRoster).pod p).listed) = s.goneLoaded p := by
  rw [State.listed_listPods, PodSet.has_not, State.goneLoaded]
  cases PodSet.has s.loadedRoster p <;> simp

theorem State.talkers_beginSlot (s : State) (p : PodId) : (s.beginSlot p).talkers = s.talkers := rfl

theorem State.talkers_beginFirstSlot (before after : State) : (beginFirstSlot before after).talkers = after.talkers := by
  unfold beginFirstSlot
  split
  · split
    · rfl
    · rw [State.talkers_beginSlot, State.talkers_settle]
  · rfl

theorem State.talkers_listPods (named : PodSet) : (s.listPods named).talkers = s.talkers := by
  refine (State.talkers_beginFirstSlot _ _).trans ?_
  rw [State.talkers_raiseIf, State.talkers_raiseIf, State.talkers_mapPods]

/-- What the unlisting of a load raises is judged by the records before the load. -/
theorem State.unlistNotices_listPods : (s.listPods s.loadedRoster).unlistNotices s.goneLoaded = s.unlistNotices s.goneLoaded := by
  have hsame {f : Pod → Bool} (hf : ∀ a b : Pod, a.Alike b → f a = f b) (p : PodId) :
      (s.goneLoaded p && f ((s.listPods s.loadedRoster).pod p)) = (s.goneLoaded p && f (s.pod p)) := by
    cases hg : s.goneLoaded p with
    | false => rfl
    | true => rw [hf _ _ (s.pod_listPods_gone hg)]
  unfold State.unlistNotices
  rw [State.talkers_listPods]
  simp only [hsame (f := fun pod => pod.holds.any) (fun a b ⟨_, _, _, h⟩ => by rw [h]),
    hsame (f := fun pod => pod.mutedTalk) (fun a b ⟨_, _, _, h⟩ => by rw [h]),
    hsame (f := fun pod => pod.podLost.reportNotice false || pod.podClip.reportNotice false || pod.podLocal.reportNotice false)
      (fun a b ⟨_, _, _, h⟩ => by rw [h])]

/-- The notices of the roster part of a load (R6, R7, R180). -/
def State.rosterNotices : CategorySet :=
  onlyIf (allPods.any fun p => (s.pod p).chair != PodSet.has s.loadedChairs p || (s.pod p).cls != s.loadedClass p) .pods |||
    (s.unlistNotices s.goneLoaded ||| (onlyIf (allPods.any s.newlyLoaded) .pods ||| onlyIf (allPods.any s.newlyLoaded) .holds))

theorem State.raises_listPods : s.Raises (s.listPods s.loadedRoster)
    (onlyIf (allPods.any s.newlyLoaded) .pods ||| onlyIf (allPods.any s.newlyLoaded) .holds) := by
  have hsettle := s.settle_listPods s.loadedRoster
  have hsettled : (s.listedWith s.newlyLoaded).settle.port = (s.listedWith s.newlyLoaded).port :=
    congrArg State.port (State.settled_slotBegun (firstPolled s (s.listRecords s.newlyLoaded)) (State.settled_settle _))
  intro q
  have hleft : (s.listPods s.loadedRoster).settle.port q = ((s.listPods s.loadedRoster).port q).refreshed := State.port_settle ..
  have hright : (s.listedWith s.newlyLoaded).port q = (s.port q).refreshed := by
    rw [State.listedWith, State.port, State.ports_slotBegun]
    refine (State.port_settle ..).trans ?_
    rw [State.listRecords, State.port_mapPods]
    rfl
  rw [← hleft, hsettle, State.noticed, State.port_mapPorts]
  exact congrArg (fun port : Port => port.noticed _) ((congrFun hsettled q).trans hright)

theorem State.raises_loadRoster : s.Raises s.loadRoster s.rosterNotices := by
  have hunlist := State.settle_unlistPods (s.listPods s.loadedRoster) (~~~s.loadedRoster)
  dsimp only at hunlist
  rw [funext s.gone_listPods, s.unlistNotices_listPods] at hunlist
  have hports : ((s.listPods s.loadedRoster).unlisted s.goneLoaded).ports = (s.listPods s.loadedRoster).ports := by
    rw [State.unlisted_eq]
  have hrostered : s.Raises s.rostered _ := s.raises_listPods.trans (State.Raises.of_settle hports hunlist)
  rw [State.loadRoster_eq]
  refine State.Raises.raiseIf (hrostered.ports fun q => ?_) _ _
  rw [State.port_withTalkers, State.port_mapPods]

theorem State.raises_loadGains : s.Raises s.loadGains 0 := State.Raises.of_ports fun q => by
  rw [State.loadGains, State.port_mapLegs, State.port_mapPods]

end

section
variable (s : State) (value : Param → Nat) (xs : List Param)

theorem State.talkers_tune_sublist (h : (s.talkers.map Talker.pod).Nodup) (x : Param) (v : Nat) :
    (s.tune x v).talkers.Sublist s.talkers := by
  by_cases hv : s.tuning.get x = v
  · rw [State.tune, if_pos hv]
  · rw [State.tune_of_ne hv, State.talkers_raiseIf]
    exact State.talkersTuned_sublist _ x h

theorem State.raises_tune (x : Param) (v : Nat) : s.Raises (s.tune x v)
    (onlyIf (decide ((s.tune x v).talkers.length < s.talkers.length)) .talkers) := by
  by_cases hv : s.tuning.get x = v
  · rw [State.tune, if_pos hv, decide_eq_false (Nat.lt_irrefl _)]
    exact State.Raises.of_ports fun _ => rfl
  · have htalkers : (s.tune x v).talkers = (s.tuned x v).talkers := by rw [State.tune_of_ne hv, State.talkers_raiseIf]
    rw [htalkers, State.tune_of_ne hv]
    have hbase : s.Raises (s.tuned x v) 0 := State.Raises.of_ports fun _ => rfl
    simpa using hbase.raiseIf (decide ((s.tuned x v).talkers.length < s.talkers.length)) .talkers

/-- The parameters raise TALKERS when they shorten the list (R15). -/
theorem State.raises_tuneAll (h : (s.talkers.map Talker.pod).Nodup) : (s.tuneAll value xs).talkers.Sublist s.talkers ∧
    s.Raises (s.tuneAll value xs) (onlyIf (decide ((s.tuneAll value xs).talkers.length < s.talkers.length)) .talkers) := by
  induction xs generalizing s with
  | nil =>
    refine ⟨List.Sublist.refl _, ?_⟩
    rw [State.tuneAll, List.foldl_nil, decide_eq_false (Nat.lt_irrefl _)]
    exact State.Raises.of_ports fun _ => rfl
  | cons x xs ih =>
    have hsub := s.talkers_tune_sublist h x (value x)
    obtain ⟨hrest, hraises⟩ := ih (s.tune x (value x)) (h.sublist (hsub.map _))
    have hboth := (s.raises_tune x (value x)).trans hraises
    rw [State.tuneAll_cons]
    refine ⟨hrest.trans hsub, ?_⟩
    rw [onlyIf_or] at hboth
    have hle := hrest.length_le
    have hle' := hsub.length_le
    have hshorter : (decide (((s.tune x (value x)).tuneAll value xs).talkers.length < (s.tune x (value x)).talkers.length) ||
        decide ((s.tune x (value x)).talkers.length < s.talkers.length)) =
        decide (((s.tune x (value x)).tuneAll value xs).talkers.length < s.talkers.length) := by
      rw [← Bool.decide_or, decide_eq_decide]
      omega
    rwa [hshorter] at hboth

end

/-! ### The talker list of a load (R10, R15) -/

section
variable (s : State)

/-- The talker list once the loaded roster and classes hold (R7, R10). -/
def State.talkersRostered : List Talker :=
  (s.talkers.filter fun e => !s.goneLoaded e.pod).map fun e : Talker => { e with cls := s.loadedClass e.pod }

theorem State.talkers_loadRoster : s.loadRoster.talkers = s.talkersRostered := by
  obtain ⟨_, _, _, _, h⟩ := (s.listPods s.loadedRoster).unlistPods_eq (~~~s.loadedRoster)
  rw [State.loadRoster_eq, State.talkers_raiseIf, State.talkers_withTalkers, State.rostered, h, State.talkers_raiseIf,
    State.talkers_raiseIf, State.talkers_raiseIf, State.talkers_raiseIf, State.talkers_unlisted, State.talkers_listPods,
    State.talkersRostered]
  simp only [s.gone_listPods]

theorem State.talkers_loadGains : s.loadGains.talkers = s.talkers := by
  rw [State.loadGains, State.talkers_mapLegs, State.talkers_mapPods]

theorem State.talkersRostered_nodup (h : (s.talkers.map Talker.pod).Nodup) : (s.talkersRostered.map Talker.pod).Nodup := by
  rw [State.talkersRostered, List.map_map]
  exact h.sublist (List.filter_sublist.map _)

theorem State.raises_load (h : (s.talkers.map Talker.pod).Nodup) :
    s.Raises s.load (onlyIf (decide (s.load.talkers.length < s.talkersRostered.length)) .talkers ||| s.rosterNotices) := by
  have htalkers : s.loadRoster.loadGains.talkers = s.talkersRostered := by rw [State.talkers_loadGains, State.talkers_loadRoster]
  have hnodup : (s.loadRoster.loadGains.talkers.map Talker.pod).Nodup := by rw [htalkers]; exact s.talkersRostered_nodup h
  have hgains := s.raises_loadRoster.trans s.loadRoster.raises_loadGains
  rw [show 0 ||| s.rosterNotices = s.rosterNotices from BitVec.zero_or] at hgains
  have htuning := (s.loadRoster.loadGains.raises_tuneAll s.loadRoster.loadGains.loadedParam loadOrder hnodup).2
  rw [← State.loadTuning_eq, htalkers] at htuning
  exact hgains.trans htuning

theorem State.talkers_load_of_empty (h : s.talkers = []) : s.load.talkers = [] := by
  have htalkers : s.loadRoster.loadGains.talkers = [] := by
    rw [State.talkers_loadGains, State.talkers_loadRoster, State.talkersRostered, h]
    rfl
  rw [State.load, State.loadTuning_eq]
  exact State.talkers_tuneAll_of_empty _ _ _ htalkers

end

end Sys2Proof.Machine
end

section
open Sys2Proof.Machine
namespace Sys2Proof.Machine

/-! ### The tables that a load gives (R180, Tables 1-1, 1-2 and 12-10) -/

theorem PodSet.has_allOnes (p : PodId) : PodSet.has (BitVec.allOnes 24) p = true := by
  rw [PodSet.has, BitVec.getLsbD_allOnes, decide_eq_true_iff]
  exact p.isLt

theorem withSelf_has_iff (x : PodSet) (p i : PodId) : PodSet.has (withSelf x p) i = (decide (i = p) || PodSet.has x i) := by
  have hshift : (1#24 <<< p.val).getLsbD i.val = decide (i = p) := by
    rw [BitVec.getLsbD_shiftLeft, BitVec.getLsbD_one, Bool.eq_iff_iff]
    simp [Fin.ext_iff]
    omega
  rw [withSelf, PodSet.has, BitVec.getLsbD_or, hshift, Bool.or_comm]
  rfl

section
variable (r : State) (p : PodId)

theorem State.has_loadedRoster : PodSet.has r.loadedRoster p =
    (!r.commitMap.getLsbD 1 || (r.storedNumber 64 4).testBit (addressOf p)) := by
  rw [State.loadedRoster, State.committed]
  cases r.commitMap.getLsbD 1
  · exact PodSet.has_allOnes p
  · exact PodSet.has_podsNamed _ p

theorem State.has_loadedChairs : PodSet.has r.loadedChairs p =
    (r.commitMap.getLsbD 1 && (r.storedNumber 68 4).testBit (addressOf p) && PodSet.has r.loadedRoster p) := by
  rw [State.loadedChairs, State.committed]
  cases r.commitMap.getLsbD 1
  · simp [PodSet.has]
  · rw [if_pos rfl, PodSet.has, BitVec.getLsbD_and]
    exact congrArg (· && PodSet.has r.loadedRoster p) (PodSet.has_podsNamed _ p)

theorem State.has_loadedExclusion (i : PodId) : PodSet.has (r.loadedExclusion p) i =
    (decide (i = p) || (r.commitMap.getLsbD 2 && (r.storedNumber (128 + 4 * (addressOf p - 1)) 4).testBit (addressOf i))) := by
  rw [State.loadedExclusion, withSelf_has_iff, State.committed]
  cases r.commitMap.getLsbD 2
  · simp [PodSet.has]
  · exact congrArg (decide (i = p) || ·) (PodSet.has_podsNamed _ i)

end

/-- The tables are those of the store once each record and each parameter holds its loaded value. -/
theorem TablesFrom.of_load {s r t : State} (hstore : s.store = r.store) (hmap : s.commitMap = r.commitMap)
    (listed : ∀ p, (t.pod p).listed = PodSet.has r.loadedRoster p) (chair : ∀ p, (t.pod p).chair = PodSet.has r.loadedChairs p)
    (cls : ∀ p, (t.pod p).cls = r.loadedClass p) (excl : ∀ p, (t.pod p).excl = r.loadedExclusion p)
    (trim : ∀ p, (t.pod p).trim = r.loadedTrim p) (volume : ∀ p, (t.pod p).volume = r.loadedVolume p)
    (legGain : ∀ m, (t.leg m).gain = r.loadedLegGain m) (tuning : ∀ x, t.tuning.get x = r.loadedParam x) : TablesFrom s t := by
  have hnumber : s.storedNumber = r.storedNumber := by
    funext a n
    rw [State.storedNumber, hstore, State.storedNumber]
  refine ⟨fun p => ?_, fun p => ?_, fun p => ?_, fun p i => ?_, fun p => ?_, fun p => ?_, fun m => ?_, fun x => ?_⟩
  · rw [listed, hnumber, hmap, State.has_loadedRoster]
  · rw [chair, listed, hnumber, hmap, State.has_loadedChairs]
  · rw [cls, hnumber, hmap]; rfl
  · rw [excl, hnumber, hmap, State.has_loadedExclusion]
  · rw [trim, hnumber, hmap]; rfl
  · rw [volume, hnumber, hmap]; rfl
  · rw [legGain, hnumber, hmap]; rfl
  · rw [tuning, hnumber, hmap]; rfl

/-! ### What a reset leaves (R172, R179, R180) -/

/-- The state that a reset leaves, with the installer-mode flag at `b`. -/
def State.afterReset (s : State) (b : Bool) : State := (s.blocksReset b).resetLoad.settle

section
variable (s : State) (b : Bool) (p : PodId) (m : LegId) (q : PortId)

theorem State.pod_finishReset : s.finishReset.pod p = s.pod p := rfl
theorem State.leg_finishReset : s.finishReset.leg m = s.leg m := rfl
theorem State.port_finishReset : s.finishReset.port q = s.port q := rfl

/-- A pod record that a reset's load gives from the base record, but for what follows (R180). -/
def State.resetPod : Pod :=
  let r := s.blocksReset b
  let pod := if PodSet.has r.loadedRoster p then (Pod.base p).list else Pod.base p
  { pod with
    chair := PodSet.has r.loadedChairs p, cls := r.loadedClass p, excl := r.loadedExclusion p
    trim := r.loadedTrim p, volume := r.loadedVolume p, volumeGain := Ramp.flat (r.loadedVolume p) }

theorem State.pod_afterReset : (s.afterReset b).pod p = (s.resetPod b p).following (s.afterReset b) p := by
  have hbase : (s.blocksReset b).loadedPod p = { s.resetPod b p with volumeGain := Ramp.flat 65536 } := by
    rw [State.loadedPod, State.rosteredPod, State.pod_blocksReset, State.resetPod]
    dsimp only
    rw [if_neg (show ¬ (Pod.base p).listed = true from Bool.false_ne_true)]
    cases PodSet.has (s.blocksReset b).loadedRoster p <;> simp [Pod.setTrim, Pod.base, Pod.list, Ramp.flat]
  obtain ⟨g, c, x, hpod⟩ := (s.blocksReset b).pod_load p
  rw [hbase] at hpod
  rw [State.afterReset, State.pod_settle_following, State.resetLoad_eq, State.pod_finishReset, State.pod_mapPods, hpod]
  rfl

theorem State.leg_afterReset : (s.afterReset b).leg m = { Leg.base with gain := (s.blocksReset b).loadedLegGain m } := by
  rw [State.afterReset, State.leg_settle, State.resetLoad_eq, State.leg_finishReset, State.leg_mapPods, State.leg_load,
    State.leg_blocksReset]

theorem State.tuning_afterReset (x : Param) : (s.afterReset b).tuning.get x = (s.blocksReset b).loadedParam x := by
  have htuning : (s.afterReset b).tuning = (s.blocksReset b).load.tuning := by
    rw [State.afterReset, State.tuning_settle, State.resetLoad_eq, State.finishReset, State.tuning_mapPods]
  rw [htuning, State.tuning_load]

theorem State.talkers_blocksReset : (s.blocksReset b).talkers = [] := rfl

theorem State.talkers_afterReset : (s.afterReset b).talkers = [] := by
  have htalkers : (s.afterReset b).talkers = (s.blocksReset b).load.talkers := by
    rw [State.afterReset, State.talkers_settle, State.resetLoad_eq, State.finishReset, State.talkers_mapPods]
  rw [htalkers, State.talkers_load_of_empty _ (s.talkers_blocksReset b)]

theorem Port.noticed_base (cs : CategorySet) : Port.base.refreshed.noticed cs = Port.base := rfl

theorem State.port_afterReset : (s.afterReset b).port q = Port.base := by
  have hraises := (s.blocksReset b).raises_load (by rw [s.talkers_blocksReset b]; exact List.nodup_nil) q
  rw [State.port_blocksReset, Port.noticed_base] at hraises
  have hport : (s.afterReset b).port q = ((s.blocksReset b).load.port q).refreshed := by
    rw [State.afterReset, State.port_settle, State.resetLoad_eq, State.port_finishReset, State.port_mapPods]
    rfl
  rw [hport, hraises]

/-- What a reset sets beyond the load, once the load has changed no more than tables, records, talker list and slot. -/
theorem State.settle_finishReset_frame {r m : State} (h : TablesOnly r m) : m.finishReset.settle = { r with
    pods := m.finishReset.settle.pods, legs := m.legs, ports := m.finishReset.settle.ports, tuning := m.tuning, talkers := m.talkers
    privacy := if m.tuning.startPrivate = 1 then some .start else none, reinforceGain := Ramp.flat m.tuning.reinforce
    slot := none, lastPolled := 0 } := by
  have hsettle := m.finishReset.settle_eq
  generalize m.finishReset.settle = u at hsettle ⊢
  rw [State.finishReset] at hsettle
  refine hsettle.trans (congrArg (fun v : State => { v with
    pods := u.pods, ports := u.ports, privacy := if m.tuning.startPrivate = 1 then some .start else none
    reinforceGain := Ramp.flat m.tuning.reinforce, slot := none, lastPolled := 0 }) h)

/-- All that a reset leaves beside the room tables is the reset state's (R172). -/
theorem State.afterReset_frame : s.afterReset b = { State.reset with
    pending := s.pending, pods := (s.afterReset b).pods, legs := (s.afterReset b).legs, tuning := (s.afterReset b).tuning
    privacy := if (s.afterReset b).tuning.startPrivate = 1 then some .start else none
    reinforceGain := Ramp.flat (s.afterReset b).tuning.reinforce
    store := (s.blocksReset b).store, commitMap := (s.blocksReset b).commitMap, installer := b
    freeCount := (s.blocksReset b).freeCount } := by
  have hports : (s.afterReset b).ports = State.reset.ports := State.ports_ext fun q => by
    rw [State.port_afterReset]
    simp [State.port, State.reset]
  have htalkers := s.talkers_afterReset b
  have honly := (TablesOnly.load (s.blocksReset b)).trans (TablesOnly.mapPods _ fun _ pod => pod.atVolume)
  have hframe := State.settle_finishReset_frame honly
  rw [← State.resetLoad_eq, ← State.afterReset] at hframe
  generalize (s.blocksReset b).load.mapPods (fun _ pod => pod.atVolume) = m at hframe
  have hlegs : (s.afterReset b).legs = m.legs := by rw [hframe]
  have htuning : (s.afterReset b).tuning = m.tuning := by rw [hframe]
  have hlist : (s.afterReset b).talkers = m.talkers := by rw [hframe]
  rw [← hlegs, ← htuning, ← hlist] at hframe
  rw [hports, htalkers] at hframe
  exact hframe

end

end Sys2Proof.Machine
end

section
open Sys2Proof.Machine
namespace Sys2Proof.Machine

/-! ### The claims of a reset (R172, R179, R180) -/

theorem exec_powerUp (install : Bool) (s : State) : exec (.powerUp install) s = .next (s.afterReset install) := rfl

theorem exec_resetN (s : State) : exec .resetN s = .next (s.afterReset s.installer) := rfl

section
variable (s : State) (b : Bool) (p : PodId)

theorem State.listed_afterReset : ((s.afterReset b).pod p).listed = PodSet.has (s.blocksReset b).loadedRoster p := by
  rw [State.pod_afterReset, State.resetPod]
  cases PodSet.has (s.blocksReset b).loadedRoster p <;> rfl

theorem State.gateOf_afterReset : (s.afterReset b).gateOf p = .closed := by
  rw [State.gateOf, State.talkers_afterReset]
  rfl

/-- The indicator entry of a pod after a reset: dark, or muted by LINK or by privacy (R54, R55). -/
theorem State.patternOf_afterReset : (s.afterReset b).patternOf p =
    if PodSet.has (s.blocksReset b).loadedRoster p then (if (s.afterReset b).privacy.isSome then .privateRoom else .mutedHeld)
    else .dark := by
  have hpod := s.pod_afterReset b p
  have htalks : (s.afterReset b).talks p = false := by
    rw [State.talks, State.talkers_afterReset]
    rfl
  rw [State.patternOf, htalks, State.muted, hpod]
  simp only [Pod.following, State.resetPod]
  cases PodSet.has (s.blocksReset b).loadedRoster p <;> cases (s.afterReset b).privacy <;> rfl

/-- A reset sets no privacy but that of START_PRIVATE (R19). -/
theorem State.privacy_afterReset : (s.afterReset b).privacy =
    if (s.afterReset b).tuning.startPrivate = 1 then some .start else none := by
  conv_lhs => rw [State.afterReset_frame]

/-- The tables after a reset are those that its store gives (R180). -/
theorem TablesFrom.afterReset : TablesFrom (s.afterReset b) (s.afterReset b) := by
  have hframe := s.afterReset_frame b
  refine TablesFrom.of_load (r := s.blocksReset b) (by rw [hframe]) (by rw [hframe]) (s.listed_afterReset b) (fun p => ?_)
    (fun p => ?_) (fun p => ?_) (fun p => ?_) (fun p => ?_) (fun m => ?_) (s.tuning_afterReset b)
  · rw [State.pod_afterReset]; rfl
  · rw [State.pod_afterReset]; rfl
  · rw [State.pod_afterReset]; rfl
  · rw [State.pod_afterReset]; rfl
  · rw [State.pod_afterReset]; rfl
  · rw [State.leg_afterReset]

end

section
variable {s : State} (hmap : s.commitMap = 0) (hop : s.storeOp = .idle) (b : Bool)
include hop

theorem State.tornStore_of_idle : s.tornStore = s.store := by rw [State.tornStore, hop]

theorem State.store_blocksReset_of_idle : (s.blocksReset b).store = s.store ∧ (s.blocksReset b).commitMap = s.commitMap ∧
    (s.blocksReset b).freeCount = s.freeCount := by
  refine ⟨State.tornStore_of_idle hop, ?_, ?_⟩
  · rw [State.blocksReset, hop]
  · rw [State.blocksReset]
    exact if_pos hop

include hmap

/-- With every section BLANK a load gives the defaults (R180, Tables 1-1 and 1-2). -/
theorem State.committed_blank (n : Nat) : (s.blocksReset b).committed n = false := by
  rw [State.committed, (State.store_blocksReset_of_idle hop b).2.1, hmap]
  simp

/-- A part whose store has never been written is at the reset state after a reset (R172). -/
theorem State.afterReset_of_unwritten (hstore : s.store = []) : s.afterReset b =
    { State.reset with pending := s.pending, installer := b, freeCount := s.freeCount } := by
  have hblank := State.committed_blank hmap hop b
  obtain ⟨hs, hm, hf⟩ := State.store_blocksReset_of_idle hop b
  have htuning : (s.afterReset b).tuning = Tuning.defaults := Tuning.ext_get fun x => by
    rw [State.tuning_afterReset, State.loadedParam, hblank]
    rfl
  have hprivacy : (s.afterReset b).privacy = none := by
    rw [State.privacy_afterReset, htuning]
    rfl
  have hroster : (s.blocksReset b).loadedRoster = BitVec.allOnes 24 := by
    rw [State.loadedRoster, hblank]
    rfl
  have hpods : (s.afterReset b).pods = State.reset.pods := State.pods_ext fun p => by
    have hreset : State.reset.pod p = Pod.reset p := by simp [State.reset, State.pod]
    rw [hreset, State.pod_afterReset, Pod.following, State.gateOf_afterReset, State.patternOf_afterReset, hprivacy, State.resetPod,
      hroster, PodSet.has_allOnes, State.loadedClass, State.loadedExclusion, State.loadedTrim, State.loadedVolume, State.loadedChairs,
      hblank, hblank, hblank]
    simp [Pod.reset, Pod.list, Pod.base, withSelf, PodSet.has, unity]
  have hlegs : (s.afterReset b).legs = State.reset.legs := State.legs_ext fun m => by
    have hreset : State.reset.leg m = Leg.base := by simp [State.reset, State.leg]
    rw [hreset, State.leg_afterReset, State.loadedLegGain, hblank]
    rfl
  rw [State.afterReset_frame, hpods, hlegs, htuning, hs, hm, hf, hstore, hmap]
  rfl

end

end Sys2Proof.Machine

open Sys2Proof Sys2Proof.Machine

/-- Settles O2: with every section BLANK the load of a reset gives the defaults, and each block its reset value. -/
theorem resetOfAnUnwrittenPart : Obligations.ResetOfAnUnwrittenPart := by
  intro s install hstore hmap hop
  rw [exec_powerUp, exec_resetN, State.afterReset_of_unwritten hmap hop install hstore,
    State.afterReset_of_unwritten hmap hop s.installer hstore]
  exact ⟨rfl, rfl⟩

/-- Settles O3: each block's value after a reset, from the records that its load leaves. -/
theorem blocksAfterAnyReset : Obligations.BlocksAfterAnyReset := by
  intro s c hc
  obtain ⟨b, hexec, hstrap⟩ : ∃ b, exec c s = .next (s.afterReset b) ∧
      ∀ t : State, t.installer = b → t.installer = (match (generalizing := false) c with | .powerUp install => install | _ => s.installer) := by
    rcases hc with rfl | ⟨install, rfl⟩
    · exact ⟨_, exec_resetN s, fun _ => id⟩
    · exact ⟨_, exec_powerUp install s, fun _ => id⟩
  have hframe := s.afterReset_frame b
  rw [← s.privacy_afterReset b] at hframe
  have hstore : (s.afterReset b).store = (s.blocksReset b).store := by rw [hframe]
  have hmap : (s.afterReset b).commitMap = (s.blocksReset b).commitMap := by rw [hframe]
  have hinstaller : (s.afterReset b).installer = b := by rw [hframe]
  have hfree : (s.afterReset b).freeCount = (s.blocksReset b).freeCount := by rw [hframe]
  refine ⟨_, hexec, fun p => ?_, fun m => ?_, s.privacy_afterReset b, ?_, hstrap _ hinstaller, fun hop => ?_,
    TablesFrom.afterReset s b⟩
  · have hpod := s.pod_afterReset b p
    rw [Pod.following, State.gateOf_afterReset, State.patternOf_afterReset] at hpod
    rw [hpod, State.resetPod]
    cases PodSet.has (s.blocksReset b).loadedRoster p <;> rfl
  · rw [State.leg_afterReset]
  · rw [hstore, hmap, hinstaller, hfree]
    exact hframe
  · obtain ⟨hs, hm, -⟩ := State.store_blocksReset_of_idle hop b
    exact ⟨hstore.trans hs, hmap.trans hm⟩

/-- Settles O51: the reset state is what a reset of it leaves, and a reset establishes the laws. -/
theorem resetStateIsSound : Obligations.ResetStateIsSound := by
  intro cs
  have hsame : ({ State.reset with pending := cs } : State).afterReset false = { State.reset with pending := cs } :=
    State.afterReset_of_unwritten rfl rfl false rfl
  have hstore : ({ State.reset with pending := cs } : State).storeSound := ⟨rfl, trivial⟩
  have hlawful := (KeepsLaws.resetLoad _ false).lawful (State.lawful_blocksReset hstore false)
  rw [← hsame]
  exact hlawful.sound (State.settled_settle _)

end

section
open Sys2Proof.Machine
namespace Sys2Proof.Machine

/-! ### Operations cut short (R178, R179) -/

/-- What a timeout or a reset leaves of the store and of the commit map. -/
structure Interrupted (s t : State) : Prop where
  store : t.store = s.tornStore
  idle : t.storeOp = .idle
  commits : (∀ sect, s.storeOp ≠ .committing sect) → t.commitMap = s.commitMap

theorem Interrupted.of_timeout {s t : State} (h : exec .operationTimeout s = .next t) : Interrupted s t ∧ t.commitMap = s.commitMap := by
  by_cases hop : s.storeOp = .idle
  · have hsame : s = t := Host.Outcome.next.inj ((if_pos hop : execOperationTimeout s = .next s).symm.trans h)
    subst hsame
    exact ⟨⟨(State.tornStore_of_idle hop).symm, hop, fun _ => rfl⟩, rfl⟩
  · have hended := Host.Outcome.next.inj ((exec_operationTimeout_of_busy hop).symm.trans h)
    have hmap : t.commitMap = s.commitMap := by
      rw [← hended, State.commitMap_settle, State.commitMap_raiseIf]
      simp [State.endOp, State.raise, State.timedOut]
    refine ⟨⟨?_, ?_, fun _ => hmap⟩, hmap⟩
    · rw [← hended, State.store_settle, State.store_raiseIf]
      simp [State.endOp, State.raise, State.timedOut]
    · rw [← hended, State.storeOp_settle, State.storeOp_raiseIf]
      simp [State.endOp, State.raise]

theorem Interrupted.afterReset (s : State) (b : Bool) : Interrupted s (s.afterReset b) where
  store := by rw [State.afterReset_frame]; rfl
  idle := by rw [State.afterReset_frame]; rfl
  commits := fun h => by
    rw [State.afterReset_frame, State.blocksReset]
    dsimp only
    split
    · next hop => exact absurd hop (h _)
    · rfl

/-- The free value decides whether a commit cut short by a reset has taken (R179; log 5). -/
theorem State.commitMap_afterReset_of_committing {s : State} {sect : Nat} (h : s.storeOp = .committing sect) (b : Bool) :
    (s.afterReset b).commitMap = s.commitMap ∨ (s.afterReset b).commitMap = s.commitMap ||| (1#8 <<< sect) := by
  rw [State.afterReset_frame, State.blocksReset, h]
  dsimp only
  split
  · exact .inr rfl
  · exact .inl rfl

/-- What a reset leaves of the store's result, of STORE_TIMEOUT and of the notices (R179). -/
theorem State.quiet_afterReset (s : State) (b : Bool) : (s.afterReset b).lastResult = .ok ∧ (s.afterReset b).storeTimeout = false ∧
    ∀ q, ((s.afterReset b).port q).pendingSet = 0 := by
  refine ⟨by rw [State.afterReset_frame]; rfl, by rw [State.afterReset_frame]; rfl, fun q => ?_⟩
  rw [State.port_afterReset]
  rfl

section
variable {s t : State} (h : Interrupted s t) (hwf : Memory.wf s.store = true)
include h hwf

/-- A write cut short has written some of its bytes (R178). -/
theorem Interrupted.byteAt_writing {address : Nat} {data : List Byte} (hop : s.storeOp = .writing address data)
    (hfits : address + data.length ≤ storeSize) (a : Nat) :
    t.byteAt a = s.byteAt a ∨ (address ≤ a ∧ data[a - address]? = some (t.byteAt a)) := by
  rw [State.byteAt, State.byteAt, h.store, State.tornStore, hop]
  refine (read_tornWrite a hwf hfits).imp_right fun ⟨hlow, hhigh, hbyte⟩ => ⟨hlow, ?_⟩
  rw [hbyte, List.getD_eq_getElem?_getD, List.getElem?_eq_getElem (by omega)]
  rfl

/-- An erase cut short has erased some bytes of its block (R178). -/
theorem Interrupted.byteAt_erasing {sect block : Nat} (hop : s.storeOp = .erasing sect block) (hblock : block < 16) (a : Nat) :
    t.byteAt a = s.byteAt a ∨ (a / 64 = block ∧ t.byteAt a = 0xFF) := by
  rw [State.byteAt, State.byteAt, h.store, State.tornStore, hop]
  have hfits : blockSize * block + (List.replicate blockSize erasedByte).length ≤ storeSize := by
    rw [List.length_replicate]
    simp only [blockSize, storeSize]
    omega
  refine (read_tornWrite a hwf hfits).imp_right fun ⟨hlow, hhigh, hbyte⟩ => ?_
  rw [List.length_replicate] at hhigh
  simp only [blockSize] at hlow hhigh hbyte ⊢
  refine ⟨by omega, ?_⟩
  rw [hbyte, List.getD_replicate _ (by omega)]
  rfl

end

end Sys2Proof.Machine

open Sys2Proof Sys2Proof.Machine

/-- Settles O4: a timeout and a reset leave the same torn bytes, and only a reset may let a commit take. -/
theorem interruptedOperations : Obligations.InterruptedOperations := by
  intro s t c ⟨hwf, hop⟩ hc hexec
  have hcut : Interrupted s t ∧ ((c = .operationTimeout ∧ t.commitMap = s.commitMap) ∨
      (c ≠ .operationTimeout ∧ ∃ b, t = s.afterReset b)) := by
    rcases hc with rfl | rfl | ⟨install, rfl⟩
    · obtain ⟨hcut, hmap⟩ := Interrupted.of_timeout hexec
      exact ⟨hcut, .inl ⟨rfl, hmap⟩⟩
    · obtain rfl := Host.Outcome.next.inj ((exec_resetN s).symm.trans hexec)
      exact ⟨Interrupted.afterReset s _, .inr ⟨by simp, _, rfl⟩⟩
    · obtain rfl := Host.Outcome.next.inj ((exec_powerUp install s).symm.trans hexec)
      exact ⟨Interrupted.afterReset s _, .inr ⟨by simp, _, rfl⟩⟩
  obtain ⟨hcut, hway⟩ := hcut
  refine ⟨fun address data hw a => ?_, fun sect block he a => ?_, fun sect hs => ⟨?_, ?_⟩, fun hi => ⟨?_, ?_⟩, hcut.idle, fun hne => ?_⟩
  · rw [hw] at hop
    exact ⟨hcut.byteAt_writing hwf hw hop a, hcut.commits fun _ h => by rw [hw] at h; cases h⟩
  · rw [he] at hop
    obtain ⟨-, -, hblock, -⟩ := hop
    exact ⟨hcut.byteAt_erasing hwf he (hblock.trans_lt (lastBlock_lt sect)) a, hcut.commits fun _ h => by rw [he] at h; cases h⟩
  · rw [hcut.store, State.tornStore, hs]
  · rcases hway with ⟨-, hmap⟩ | ⟨hne, b, rfl⟩
    · exact .inl hmap
    · exact (State.commitMap_afterReset_of_committing hs b).imp_right fun h => ⟨hne, h⟩
  · exact hcut.store.trans (State.tornStore_of_idle hi)
  · exact hcut.commits fun _ h => by rw [hi] at h; cases h
  · rcases hway with ⟨rfl, -⟩ | ⟨-, b, rfl⟩
    · exact absurd rfl hne
    · exact s.quiet_afterReset b

end

section
/-! The first refusal of a joined port's request, row by row (R4, R24, R119, R163, Tables 9-3, 9-4, 12-2 and 12-4). -/

namespace Sys2Proof.Machine

/-! ### The checks of a request in order -/

/-- The value of the operand byte at an index, 0 beyond the last. -/
def operandAt (operands : List Byte) (i : Nat) : Nat := (operands.getD i 0).toNat

section
variable {role : Role} {code : Nat} {operands : List Byte} {x : Reason} {L C R : Bool} {k : Outcome}

theorem firstRefusal_eq : firstRefusal role code operands =
    if ¬ operandsFit code (operandAt operands 0) operands.length then some .length
    else if ¬ codesName code (operandAt operands 0) (operandAt operands 1) then some .range
    else if ¬ rolePermitted role code (operandAt operands 0) operands.length then some .notPermitted
    else if ¬ indexInRange code (operandAt operands 0) (operandAt operands 1) (operandAt operands 2) then some .range
    else none := rfl

variable (h : firstRefusal role code operands = some x)
include h

/-- Checks made in the order LENGTH, RANGE, NOT_PERMITTED, RANGE give the first refusal. -/
theorem refused_of_checks (hL : L = true ↔ operandsFit code (operandAt operands 0) operands.length)
    (hC : L = true → (C = true ↔ codesName code (operandAt operands 0) (operandAt operands 1)))
    (hR : L = true → C = true → (R = true ↔ rolePermitted role code (operandAt operands 0) operands.length))
    (hk : L = true → C = true → ¬ indexInRange code (operandAt operands 0) (operandAt operands 1) (operandAt operands 2) →
      k = refuse .range) :
    ensure L .length (ensure C .range (ensure R .notPermitted k)) = refuse x := by
  rw [firstRefusal_eq] at h
  cases hl : L with
  | false =>
    rw [if_pos (by rw [← hL, hl]; exact Bool.false_ne_true)] at h
    cases h
    rfl
  | true =>
    rw [if_neg (not_not.2 (hL.1 hl))] at h
    have hC' := hC hl
    cases hc : C with
    | false =>
      rw [if_pos (by rw [← hC', hc]; exact Bool.false_ne_true)] at h
      cases h
      rfl
    | true =>
      rw [if_neg (not_not.2 (hC'.1 hc))] at h
      have hR' := hR hl hc
      cases hr : R with
      | false =>
        rw [if_pos (by rw [← hR', hr]; exact Bool.false_ne_true)] at h
        cases h
        rfl
      | true =>
        rw [if_neg (not_not.2 (hR'.1 hr))] at h
        by_cases hi : indexInRange code (operandAt operands 0) (operandAt operands 1) (operandAt operands 2)
        · rw [if_neg (not_not.2 hi)] at h
          cases h
        · rw [if_pos hi] at h
          cases h
          exact hk hl hc hi

/-- The same for a request whose codes are not judged. -/
theorem refused_of_role (hL : L = true ↔ operandsFit code (operandAt operands 0) operands.length)
    (hC : codesName code (operandAt operands 0) (operandAt operands 1))
    (hR : L = true → (R = true ↔ rolePermitted role code (operandAt operands 0) operands.length))
    (hk : L = true → ¬ indexInRange code (operandAt operands 0) (operandAt operands 1) (operandAt operands 2) →
      k = refuse .range) :
    ensure L .length (ensure R .notPermitted k) = refuse x :=
  refused_of_checks (C := true) h hL (fun _ => iff_of_true rfl hC) (fun hl _ => hR hl) fun hl _ => hk hl

/-- The same for a request that every role may send. -/
theorem refused_of_form (hL : L = true ↔ operandsFit code (operandAt operands 0) operands.length)
    (hC : codesName code (operandAt operands 0) (operandAt operands 1))
    (hR : rolePermitted role code (operandAt operands 0) operands.length)
    (hk : L = true → ¬ indexInRange code (operandAt operands 0) (operandAt operands 1) (operandAt operands 2) →
      k = refuse .range) : ensure L .length k = refuse x :=
  refused_of_role (R := true) h hL hC (fun _ => iff_of_true rfl hR) hk

end

/-! ### Operand bytes as the requests read them -/

theorem number_take_one (operands : List Byte) : number (operands.take 1) = operandAt operands 0 := by
  cases operands <;> simp [number, operandAt]

theorem number_second (operands : List Byte) : number ((operands.drop 1).take 1) = operandAt operands 1 := by
  rcases operands with _ | ⟨a, _ | ⟨b, more⟩⟩ <;> simp [number, operandAt]

theorem number_of_one {operands : List Byte} (h : operands.length = 1) : number operands = operandAt operands 0 := by
  obtain ⟨a, rfl⟩ := List.length_eq_one_iff.1 h
  simp [number, operandAt]

theorem number_take_two {operands : List Byte} (h : 2 ≤ operands.length) :
    number (operands.take 2) = 256 * operandAt operands 0 + operandAt operands 1 := by
  rcases operands with _ | ⟨a, _ | ⟨b, more⟩⟩
  · simp at h
  · simp at h
  · simp [number, operandAt]

theorem number_drop_one {operands : List Byte} (h : operands.length = 2) : number (operands.drop 1) = operandAt operands 1 := by
  obtain ⟨a, b, rfl⟩ := List.length_eq_two.1 h
  simp [number, operandAt]

theorem number_drop_two {operands : List Byte} (h : operands.length = 3) : number (operands.drop 2) = operandAt operands 2 := by
  obtain ⟨a, b, c, rfl⟩ := List.length_eq_three.1 h
  simp [number, operandAt]

theorem isSetLength_iff (n : Nat) : isSetLength n = true ↔ 1 ≤ n ∧ n ≤ 4 := by
  simp [isSetLength]

theorem podOfAddress_of_out {n : Nat} (h : ¬ (1 ≤ n ∧ n ≤ 24)) : podOfAddress n = none := dif_neg h

theorem kindOf_eq {operands : List Byte} (h : operands ≠ []) : kindOf operands = some (operandAt operands 0) := by
  obtain ⟨a, more, rfl⟩ := List.exists_cons_of_ne_nil h
  rfl

theorem holdTargetOfCode_isSome (n : Nat) : (holdTargetOfCode n).isSome = true ↔ n ≤ 2 := by
  rw [(codes_named n).1, Option.isSome_iff_ne_none, Ne, List.getElem?_eq_none_iff, not_le]
  exact Nat.lt_succ_iff

theorem gainKindOfCode_isSome (n : Nat) : (gainKindOfCode n).isSome = true ↔ n ≤ 2 := by
  obtain ⟨-, -, -, h, -⟩ := codes_named n
  rw [h, Option.isSome_iff_ne_none, Ne, List.getElem?_eq_none_iff, not_le]
  exact Nat.lt_succ_iff

theorem legStateOfCode_eq_none (n : Nat) : legStateOfCode n = none ↔ ¬ n ≤ 2 := by
  obtain ⟨-, -, -, -, -, h⟩ := codes_named n
  rw [h, List.getElem?_eq_none_iff, not_le]
  exact Nat.succ_le_iff

theorem roleOfCode_eq_none (n : Nat) : roleOfCode n = none ↔ ¬ n ≤ 2 := by
  obtain ⟨-, -, -, -, h, -⟩ := codes_named n
  rw [h, List.getElem?_eq_none_iff, not_le]
  exact Nat.succ_le_iff

theorem paramOfId_eq_none {n : Nat} (h : ¬ (1 ≤ n ∧ n ≤ 15)) : paramOfId n = none := by
  rcases Nat.eq_zero_or_pos n with rfl | hn
  · rfl
  · rw [paramOfId, List.getElem?_eq_none (by simp; omega)]
    rfl

/-! ### The requests (Table 9-3) -/

section
variable {s : State} {q : PortId} {role : Role} {f : RequestFrame} {x : Reason} {roles : List Role} {k : Outcome}
  (hj : JoinedAs s q role)
include hj

theorem JoinedAs.roleIn_iff : s.roleIn q roles = true ↔ role ∈ roles := by
  rw [hj.roleIn, List.contains_iff_mem]

/-- A request without operands is judged by their number and by the role. -/
theorem noOperands_refused {code : Nat} (hcode : code ∈ [0x04, 0x13, 0x14, 0x41, 0x42, 0x43, 0x44, 0x46, 0x54, 0x55])
    (hroles : rolePermitted role code (operandAt f.operands 0) f.operands.length ↔ role ∈ roles)
    (h : firstRefusal role code f.operands = some x) :
    ensure f.operands.isEmpty .length (ensure (s.roleIn q roles) .notPermitted k) = refuse x := by
  have hfit : operandsFit code (operandAt f.operands 0) f.operands.length ↔ f.operands.length = 0 := by
    fin_cases hcode <;> simp [operandsFit]
  have hcodes : codesName code (operandAt f.operands 0) (operandAt f.operands 1) := by fin_cases hcode <;> simp [codesName]
  have hindex : indexInRange code (operandAt f.operands 0) (operandAt f.operands 1) (operandAt f.operands 2) := by
    fin_cases hcode <;> simp [indexInRange]
  refine refused_of_role h ?_ hcodes (fun _ => ?_) fun _ hi => absurd hindex hi
  · rw [hfit, List.isEmpty_iff_length_eq_zero]
  · rw [hj.roleIn_iff, hroles]

end

end Sys2Proof.Machine
end

section
namespace Sys2Proof.Machine

section
variable {s : State} {q : PortId} {role : Role} {f : RequestFrame} {x : Reason}

/-! ### The requests of every role (Table 9-3) -/

theorem requestJoin_refused (h : firstRefusal role 0x01 f.operands = some x) : requestJoin q f s = refuse x := by
  refine refused_of_form h (by simp [operandsFit]) (by simp [codesName]) (by simp [rolePermitted]) fun hl hi => ?_
  rw [number_of_one (by simpa using hl), (roleOfCode_eq_none _).2 (by simpa [indexInRange] using hi)]

theorem requestLeave_refused (h : firstRefusal role 0x02 f.operands = some x) : requestLeave q f s = refuse x :=
  refused_of_form h (by simp [operandsFit]) (by simp [codesName]) (by simp [rolePermitted]) fun _ hi =>
    absurd (by simp [indexInRange]) hi

theorem requestPulse_refused (h : firstRefusal role 0x03 f.operands = some x) : requestPulse q f s = refuse x := by
  refine refused_of_form h (by simp [operandsFit]) (by simp [codesName]) (by simp [rolePermitted]) fun hl hi => ?_
  dsimp only
  rw [number_of_one (by simpa using hl), decide_eq_false (by simpa [indexInRange] using hi)]
  rfl

theorem requestIdent_refused (h : firstRefusal role 0x06 f.operands = some x) : requestIdent q f s = refuse x :=
  refused_of_form h (by simp [operandsFit]) (by simp [codesName]) (by simp [rolePermitted]) fun _ hi =>
    absurd (by simp [indexInRange]) hi

theorem gainPod_of_out {bound : Nat} {set : Nat → Pod → Pod} (hi : ¬ (1 ≤ operandAt f.operands 1 ∧ operandAt f.operands 1 ≤ 24)) :
    gainPod f.operands s bound set = refuse .range := by
  rw [gainPod, number_second, podOfAddress_of_out hi]

theorem rosterLengthFits_iff (operands : List Byte) :
    rosterLengthFits operands = true ↔ operandsFit 0x32 (operandAt operands 0) operands.length := by
  rcases operands with _ | ⟨op, more⟩
  · simp [rosterLengthFits, operandsFit, operandAt]
  have hfirst : operandAt (op :: more) 0 = op.toNat := rfl
  rw [hfirst]
  unfold rosterLengthFits
  dsimp only
  generalize op.toNat = n
  match n with
  | 0 => simp [rosterOpOfCode, isSetLength, operandsFit]; omega
  | 1 => simp [rosterOpOfCode, isSetLength, operandsFit]; omega
  | 2 => simp [rosterOpOfCode, isSetLength, operandsFit]; omega
  | 3 => simp [rosterOpOfCode, operandsFit]
  | n + 4 => simp [rosterOpOfCode, isSetLength, operandsFit]; omega

theorem rosterCodes_iff (operands : List Byte) :
    (match rosterOpOfCode (number (operands.take 1)) with
    | some .chair => (chairChoiceOfCode (number ((operands.drop 1).take 1))).isSome
    | some _ => true
    | none => false) = true ↔ codesName 0x32 (operandAt operands 0) (operandAt operands 1) := by
  have hchoice (n : Nat) : (chairChoiceOfCode n).isSome = true ↔ n ≤ 1 := by
    obtain ⟨-, -, h, -⟩ := codes_named n
    rw [h, Option.isSome_iff_ne_none, Ne, List.getElem?_eq_none_iff, not_le]
    exact Nat.lt_succ_iff
  rw [number_take_one, number_second]
  match operandAt operands 0 with
  | 0 => simp [rosterOpOfCode, codesName]
  | 1 => simp [rosterOpOfCode, codesName]
  | 2 => simpa [rosterOpOfCode, codesName] using hchoice _
  | 3 => simp [rosterOpOfCode, codesName]
  | n + 4 => simp [rosterOpOfCode, codesName]

variable (hj : JoinedAs s q role)
include hj

theorem requestWatch_refused (h : firstRefusal role 0x05 f.operands = some x) : requestWatch q f s = refuse x :=
  refused_of_role h (by simp [operandsFit]) (by simp [codesName]) (fun _ => iff_of_true hj.roleIn_all (by simp [rolePermitted]))
    fun _ hi => absurd (by simp [indexInRange]) hi

theorem requestReadChannel_refused (h : firstRefusal role 0x40 f.operands = some x) : requestReadChannel q f s = refuse x := by
  refine refused_of_role h (by simp [operandsFit]) (by simp [codesName])
    (fun _ => iff_of_true hj.roleIn_all (by simp [rolePermitted])) fun hl hi => ?_
  rw [number_of_one (by simpa using hl), podOfAddress_of_out (by simpa [indexInRange] using hi)]

theorem requestTuneQuery_refused (hone : f.operands.length = 1) (h : firstRefusal role 0x31 f.operands = some x) :
    requestTuneQuery q f s = refuse x := by
  refine refused_of_role h (by simp [operandsFit, hone]) (by simp [codesName])
    (fun _ => iff_of_true hj.roleIn_all (by simp [rolePermitted, hone])) fun _ hi => ?_
  rw [number_of_one hone, paramOfId_eq_none (by simpa [indexInRange] using hi)]

theorem requestStoreRead_refused (h : firstRefusal role 0x50 f.operands = some x) : requestStoreRead q f s = refuse x := by
  refine refused_of_role h (by simp [operandsFit]) (by simp [codesName])
    (fun _ => iff_of_true hj.roleIn_all (by simp [rolePermitted])) fun hl hi => ?_
  have hlength : f.operands.length = 3 := by simpa using hl
  dsimp only
  rw [number_take_two (by omega), number_drop_two hlength]
  refine if_neg fun hin => hi ?_
  obtain ⟨hlow, hhigh⟩ := Bool.and_eq_true_iff.1 hin
  obtain ⟨haddress, hcount⟩ := Bool.and_eq_true_iff.1 hlow
  exact ⟨of_decide_eq_true haddress, of_decide_eq_true hcount, of_decide_eq_true hhigh⟩

/-! ### The requests of ROOM and CALL -/

theorem requestClearFaults_refused (h : firstRefusal role 0x45 f.operands = some x) : requestClearFaults q f s = refuse x :=
  refused_of_role h (by simp [operandsFit]) (by simp [codesName])
    (fun _ => hj.roleIn_iff.trans (by cases role <;> simp [rolePermitted])) fun _ hi => absurd (by simp [indexInRange]) hi

theorem holdChecks_refused {code : Nat} (hcode : code = 0x10 ∨ code = 0x11) {k : Outcome}
    (h : firstRefusal role code f.operands = some x) : holdChecks q f.operands s k = refuse x := by
  refine refused_of_checks h ?_ (fun _ => ?_) (fun _ _ => hj.roleIn_iff.trans ?_) fun _ _ hi => absurd ?_ hi
  · rw [isSetLength_iff]
    rcases hcode with rfl | rfl <;> simp [operandsFit] <;> omega
  · rw [number_take_one, holdTargetOfCode_isSome]
    rcases hcode with rfl | rfl <;> simp [codesName]
  · rcases hcode with rfl | rfl <;> cases role <;> simp [rolePermitted]
  · rcases hcode with rfl | rfl <;> simp [indexInRange]

theorem requestLegState_refused (h : firstRefusal role 0x20 f.operands = some x) : requestLegState q f s = refuse x := by
  have hchecks : requestLegState q f s = ensure (f.operands.length == 2) .length
      (ensure (legStateOfCode (number (f.operands.drop 1))).isSome .range
        (ensure (s.roleIn q [.call]) .notPermitted
          (match legOfIndex (number (f.operands.take 1)) with
          | none => refuse .range
          | some m => legTransition m ((legStateOfCode (number (f.operands.drop 1))).getD .closed) s))) := by
    unfold requestLegState
    cases legStateOfCode (number (f.operands.drop 1)) <;> rfl
  rw [hchecks]
  refine refused_of_checks h (by simp [operandsFit]) (fun hl => ?_)
    (fun _ _ => hj.roleIn_iff.trans (by simp [rolePermitted])) fun _ _ hi => ?_
  · rw [number_drop_one (by simpa using hl), Option.isSome_iff_ne_none, Ne, legStateOfCode_eq_none]
    simp [codesName]
  · have hout : ¬ operandAt f.operands 0 < 4 := by
      simp [indexInRange] at hi
      omega
    rw [number_take_one, legOfIndex, dif_neg hout]

/-! ### The requests of ROOM -/

theorem requestReleaseAll_refused (h : firstRefusal role 0x12 f.operands = some x) : requestReleaseAll q f s = refuse x := by
  refine refused_of_role h ?_ (by simp [codesName]) (fun _ => hj.roleIn_iff.trans (by simp [rolePermitted]))
    fun _ hi => absurd (by simp [indexInRange]) hi
  rw [isSetLength_iff]
  simp [operandsFit]

theorem requestTuneSet_refused (hmany : f.operands.length ≠ 1) (h : firstRefusal role 0x31 f.operands = some x) :
    requestTuneSet q f s = refuse x := by
  refine refused_of_role h (by simp [operandsFit, hmany]) (by simp [codesName])
    (fun hl => hj.roleIn_iff.trans (by simp [rolePermitted, (by simpa using hl : f.operands.length = 4)])) fun _ hi => ?_
  rw [number_take_one, paramOfId_eq_none (by simpa [indexInRange] using hi)]

theorem requestExclude_refused (h : firstRefusal role 0x33 f.operands = some x) : requestExclude q f s = refuse x := by
  refine refused_of_role h ?_ (by simp [codesName]) (fun _ => hj.roleIn_iff.trans (by simp [rolePermitted])) fun _ hi => ?_
  · rw [isSetLength_iff]
    simp [operandsFit]
    omega
  · rw [number_take_one, podOfAddress_of_out (by simpa [indexInRange] using hi)]

theorem requestStoreWrite_refused (h : firstRefusal role 0x51 f.operands = some x) : requestStoreWrite q f s = refuse x := by
  refine refused_of_role h (by simp [operandsFit]) (by simp [codesName]) (fun _ => hj.roleIn_iff.trans (by simp [rolePermitted]))
    fun hl hi => ?_
  have hlength : 3 ≤ f.operands.length ∧ f.operands.length ≤ 18 := by simpa using hl
  dsimp only
  rw [number_take_two (by omega), decide_eq_false (by simpa [indexInRange, storeSize] using hi)]
  rfl

theorem requestStoreCommit_refused (h : firstRefusal role 0x52 f.operands = some x) : requestStoreCommit q f s = refuse x := by
  refine refused_of_role h (by simp [operandsFit]) (by simp [codesName]) (fun _ => hj.roleIn_iff.trans (by simp [rolePermitted]))
    fun hl hi => ?_
  dsimp only
  rw [number_of_one (by simpa using hl), decide_eq_false (by simpa [indexInRange, maxSection] using hi)]
  rfl

theorem requestStoreErase_refused (h : firstRefusal role 0x53 f.operands = some x) : requestStoreErase q f s = refuse x := by
  refine refused_of_role h (by simp [operandsFit]) (by simp [codesName]) (fun _ => hj.roleIn_iff.trans (by simp [rolePermitted]))
    fun hl hi => ?_
  dsimp only
  rw [number_of_one (by simpa using hl), decide_eq_false (by simpa [indexInRange, maxSection] using hi)]
  rfl

/-- GAIN: its form and kind, the roles of the kind, and then the index (R12). -/
theorem gainChecks_refused {roles : List Role} {k : Outcome}
    (hroles : operandAt f.operands 0 ≤ 2 → (rolePermitted role 0x30 (operandAt f.operands 0) f.operands.length ↔ role ∈ roles))
    (hk : f.operands.length = 5 → operandAt f.operands 0 ≤ 2 →
      ¬ indexInRange 0x30 (operandAt f.operands 0) (operandAt f.operands 1) (operandAt f.operands 2) → k = refuse .range)
    (h : firstRefusal role 0x30 f.operands = some x) : gainChecks q f.operands s roles k = refuse x := by
  have hcodes : (gainKindOfCode (number (f.operands.take 1))).isSome = true ↔ operandAt f.operands 0 ≤ 2 := by
    rw [number_take_one, gainKindOfCode_isSome]
  refine refused_of_checks h (by simp [operandsFit]) (fun _ => hcodes.trans (by simp [codesName]))
    (fun _ hc => hj.roleIn_iff.trans (hroles (hcodes.1 hc)).symm) fun hl hc => hk (by simpa using hl) (hcodes.1 hc)

/-- GAIN on a pod, of any kind but LEG_GAIN. -/
theorem gainPod_refused {bound : Nat} {set : Nat → Pod → Pod} (hkind : operandAt f.operands 0 ≠ 2)
    (h : firstRefusal role 0x30 f.operands = some x) :
    gainChecks q f.operands s [.room] (gainPod f.operands s bound set) = refuse x := by
  refine gainChecks_refused hj (fun _ => by simp [rolePermitted, hkind]) (fun _ hc hi => ?_) h
  have hpod : operandAt f.operands 0 ≤ 1 := by omega
  exact gainPod_of_out (by simpa [indexInRange, hpod] using hi)

theorem requestGainLegGain_refused (hkind : operandAt f.operands 0 = 2) (h : firstRefusal role 0x30 f.operands = some x) :
    requestGainLegGain q f s = refuse x := by
  refine gainChecks_refused hj (fun _ => by cases role <;> simp [rolePermitted, hkind]) (fun _ _ hi => ?_) h
  have hout : ¬ operandAt f.operands 1 < 4 := by
    simp [indexInRange, hkind] at hi
    omega
  dsimp only
  rw [number_second, dif_neg hout]

/-! ### ROSTER (R4, log 9) -/

/-- ROSTER: its form and codes, the role, and the index of CLASS. -/
theorem rosterChecks_refused {k : Outcome}
    (hk : operandAt f.operands 0 = 3 → ¬ (1 ≤ operandAt f.operands 1 ∧ operandAt f.operands 1 ≤ 24) → k = refuse .range)
    (h : firstRefusal role 0x32 f.operands = some x) : rosterChecks q f.operands s k = refuse x := by
  refine refused_of_checks h (rosterLengthFits_iff _) (fun _ => rosterCodes_iff _)
    (fun _ _ => hj.roleIn_iff.trans (by simp [rolePermitted])) fun _ _ hi => ?_
  by_cases hclass : operandAt f.operands 0 = 3
  · exact hk hclass (by simpa [indexInRange, hclass] using hi)
  · exact absurd (by simp [indexInRange, hclass]) hi

theorem requestRosterClass_refused (h : firstRefusal role 0x32 f.operands = some x) : requestRosterClass q f s = refuse x := by
  refine rosterChecks_refused hj (fun _ hi => ?_) h
  rw [number_second, podOfAddress_of_out hi]

/-! ### Codes of several rows (Table 9-3) -/

theorem gain_refused (h : firstRefusal role 0x30 f.operands = some x) :
    requestOf (rowOfCode 0x30 f.operands) q f s = refuse x := by
  change requestOf (match (kindOf f.operands).bind gainKindOfCode with
    | some .volume => .gainVolume
    | some .legGain => .gainLegGain
    | _ => .gainTrim) q f s = refuse x
  by_cases hempty : f.operands = []
  · have hkind : operandAt f.operands 0 ≠ 2 := by simp [hempty, operandAt]
    rw [hempty]
    exact gainPod_refused hj hkind h
  rw [kindOf_eq hempty, Option.bind_some]
  match hkind : operandAt f.operands 0 with
  | 0 => exact gainPod_refused hj (by omega) h
  | 1 => exact gainPod_refused hj (by omega) h
  | 2 => exact requestGainLegGain_refused hj hkind h
  | n + 3 => exact gainPod_refused hj (by omega) h

theorem roster_refused (h : firstRefusal role 0x32 f.operands = some x) :
    requestOf (rowOfCode 0x32 f.operands) q f s = refuse x := by
  change requestOf (match (kindOf f.operands).bind rosterOpOfCode with
    | some .unlist => .rosterUnlist
    | some .chair => .rosterChair
    | some .cls => .rosterClass
    | _ => .rosterList) q f s = refuse x
  by_cases hempty : f.operands = []
  · have hkind : operandAt f.operands 0 ≠ 3 := by simp [hempty, operandAt]
    rw [hempty]
    exact rosterChecks_refused hj (fun hc => absurd hc hkind) h
  rw [kindOf_eq hempty, Option.bind_some]
  match hkind : operandAt f.operands 0 with
  | 0 => exact rosterChecks_refused hj (fun hc => by omega) h
  | 1 => exact rosterChecks_refused hj (fun hc => by omega) h
  | 2 => exact rosterChecks_refused hj (fun hc => by omega) h
  | 3 => exact requestRosterClass_refused hj h
  | n + 4 => exact rosterChecks_refused hj (fun hc => by omega) h

theorem holdOn_refused (h : firstRefusal role 0x10 f.operands = some x) :
    requestOf (rowOfCode 0x10 f.operands) q f s = refuse x := by
  change requestOf (match (kindOf f.operands).bind holdTargetOfCode with
    | some .send => .holdOnLegs
    | some .receive => .holdOnLegs
    | _ => .holdOnPods) q f s = refuse x
  match (kindOf f.operands).bind holdTargetOfCode with
  | some .send => exact holdChecks_refused hj (.inl rfl) h
  | some .receive => exact holdChecks_refused hj (.inl rfl) h
  | some .pods => exact holdChecks_refused hj (.inl rfl) h
  | none => exact holdChecks_refused hj (.inl rfl) h

theorem tune_refused (h : firstRefusal role 0x31 f.operands = some x) :
    requestOf (rowOfCode 0x31 f.operands) q f s = refuse x := by
  change requestOf (if f.operands.length = 1 then .tuneQuery else .tuneSet) q f s = refuse x
  by_cases hone : f.operands.length = 1
  · rw [if_pos hone]
    exact requestTuneQuery_refused hj hone h
  · rw [if_neg hone]
    exact requestTuneSet_refused hj hone h

/-- The row of a code of Table 9-3 answers the first refusal. -/
theorem requestOf_refused {code : Nat} (hcode : rowOfCode code f.operands ≠ .unknown)
    (h : firstRefusal role code f.operands = some x) : requestOf (rowOfCode code f.operands) q f s = refuse x := by
  have hmem : code ∈ [0x01, 0x02, 0x03, 0x04, 0x05, 0x06, 0x10, 0x11, 0x12, 0x13, 0x14, 0x20, 0x30, 0x31, 0x32, 0x33,
      0x40, 0x41, 0x42, 0x43, 0x44, 0x45, 0x46, 0x50, 0x51, 0x52, 0x53, 0x54, 0x55] := by
    by_contra hne
    simp only [List.mem_cons, List.not_mem_nil, or_false, not_or] at hne
    exact hcode (by simp [rowOfCode, hne])
  have hall {code : Nat} (hnone : code ∈ [0x04, 0x41, 0x42, 0x43, 0x44, 0x46, 0x54]) :
      rolePermitted role code (operandAt f.operands 0) f.operands.length ↔ role ∈ [.call, .room, .view] := by
    fin_cases hnone <;> cases role <;> simp [rolePermitted]
  simp only [List.mem_cons, List.not_mem_nil, or_false] at hmem
  rcases hmem with rfl | rfl | rfl | rfl | rfl | rfl | rfl | rfl | rfl | rfl | rfl | rfl | rfl | rfl | rfl | rfl | rfl | rfl |
    rfl | rfl | rfl | rfl | rfl | rfl | rfl | rfl | rfl | rfl | rfl
  · exact requestJoin_refused h
  · exact requestLeave_refused h
  · exact requestPulse_refused h
  · exact noOperands_refused hj (by decide) (hall (by decide)) h
  · exact requestWatch_refused hj h
  · exact requestIdent_refused h
  · exact holdOn_refused hj h
  · exact holdChecks_refused hj (.inr rfl) h
  · exact requestReleaseAll_refused hj h
  · exact noOperands_refused hj (by decide) (by cases role <;> simp [rolePermitted]) h
  · exact noOperands_refused hj (by decide) (by cases role <;> simp [rolePermitted]) h
  · exact requestLegState_refused hj h
  · exact gain_refused hj h
  · exact tune_refused hj h
  · exact roster_refused hj h
  · exact requestExclude_refused hj h
  · exact requestReadChannel_refused hj h
  · exact noOperands_refused hj (by decide) (hall (by decide)) h
  · exact noOperands_refused hj (by decide) (hall (by decide)) h
  · exact noOperands_refused hj (by decide) (hall (by decide)) h
  · exact noOperands_refused hj (by decide) (hall (by decide)) h
  · exact requestClearFaults_refused hj h
  · exact noOperands_refused hj (by decide) (hall (by decide)) h
  · exact requestStoreRead_refused hj h
  · exact requestStoreWrite_refused hj h
  · exact requestStoreCommit_refused hj h
  · exact requestStoreErase_refused hj h
  · exact noOperands_refused hj (by decide) (hall (by decide)) h
  · exact noOperands_refused hj (by decide) (by cases role <;> simp [rolePermitted]) h

end

/-- The turn of a JOIN that is refused, from a port in any state. -/
theorem AtTurn.join_refused {s : State} {q : PortId} {operands : List Byte} {rest : List RequestFrame} {x : Reason}
    (h : AtTurn s q (goodFrame 0x01 operands) rest)
    (ho : requestJoin q (goodFrame 0x01 operands) (s.headTaken q rest) = refuse x) :
    exec (.join q) s = .next (s.answered q rest ⟨.refused x, 0x01, []⟩) := by
  have houtcome : outcomeOf .join requestJoin q (goodFrame 0x01 operands) (s.headTaken q rest) = .error x := ho
  rw [exec_join, h.takeTurn_error (row_join operands) houtcome]
  rfl

end Sys2Proof.Machine

open Sys2Proof Sys2Proof.Machine

/-- Settles O12: every row makes its checks in the order of `firstRefusal`, and JOIN then asks whether its port is joined and
whether the role is taken. -/
theorem requestsRefusedInOrder : Obligations.RequestsRefusedInOrder := by
  refine ⟨fun s q f rest role x h hj hgood hrow hfirst => ?_, fun s q operands rest h => ⟨fun hlength => ?_, ?_⟩⟩
  · have hf : f.row = rowOfCode f.code.toNat f.operands := by rw [RequestFrame.row, hgood]; rfl
    rw [hf] at hrow
    have ho : requestOf f.row q f (s.headTaken q rest) = refuse x := by
      rw [hf]
      exact requestOf_refused (hj.headTaken rest) hrow hfirst
    exact h.exec_error ((hj.headTaken rest).outcomeOf_eq.trans ho)
  · refine h.join_refused ?_
    simp [requestJoin, goodFrame, ensure, hlength]
  · rintro b rfl
    refine ⟨fun hrange => h.join_refused ?_, fun hrange hstate => ?_, fun k role hb hk hj hstate => h.join_refused ?_⟩
    · have hnumber : number [b] = b.toNat := by simp [number]
      simp [requestJoin, goodFrame, ensure, hnumber, (roleOfCode_eq_none _).2 (Nat.not_le.2 hrange)]
    · obtain ⟨role, hrole⟩ := Option.ne_none_iff_exists'.1 fun hnone => (roleOfCode_eq_none b.toNat).1 hnone hrange
      have hjoined : ((s.headTaken q rest).port q).joined = true := by
        rw [State.joined_headTaken]
        rcases hstate with hstate | hstate <;> rw [Port.joined, hstate] <;> rfl
      exact h.join_refused (by rw [requestJoin_one _ _ hrole, if_pos hjoined])
    · have hrole : roleOfCode b.toNat = some role := by rcases hb with ⟨rfl, rfl⟩ | ⟨rfl, rfl⟩ <;> rfl
      have hview : role ≠ .view := by rcases hb with ⟨-, rfl⟩ | ⟨-, rfl⟩ <;> decide
      have hvacant : ((s.headTaken q rest).port q).joined = false := by
        rw [State.joined_headTaken, Port.joined_of_vacant hstate]
      have htaken : s.roleTaken q role = true := by
        rw [← Bool.not_eq_false, s.roleTaken_iff_joinedAs q role]
        exact fun hfree => hfree.elim hview fun hnone => hnone k hk hj
      rw [requestJoin_one _ _ hrole, hvacant, State.roleTaken_headTaken, htaken]
      rfl
end

section
/-! What a profile load makes of the pod records, the talker list, the slot and the ports, told by the state before it (R180). -/

namespace Sys2Proof.Machine

/-! ### Pod records (R6, R7, R180) -/

/-- A pod record that a load leaves with these table entries, but for what follows: kept where the pod was and stays listed, cleared or
listed afresh elsewhere. -/
def Pod.reloaded (pod : Pod) (listed chair : Bool) (cls : Nat) (excl : PodSet) (trim volume : Nat) : Pod :=
  let kept := pod.listed && listed
  let cleared := pod.listed && !listed
  { pod with
    listed := listed, chair := chair, cls := cls, excl := excl, trim := trim, volume := volume
    holds := if kept then pod.holds else if listed then HoldSet.linkOnly else HoldSet.empty
    mutedTalk := kept && pod.mutedTalk
    level := if kept then pod.level else 0, floor := if kept then pod.floor else 0
    muteEnv := if kept then pod.muteEnv else Ramp.flat 0
    gateEnv := if kept then pod.gateEnv else Ramp.flat 0
    contrib := if kept then ⟨pod.contrib.prev, min pod.contrib.now trim⟩ else Ramp.flat 0
    contribEnd := if kept then pod.contribEnd else 0
    link := if kept then pod.link else if listed then .seeking else .unlisted
    misses := if kept then pod.misses else 0
    baselines := if kept then pod.baselines else none
    shortDue := if kept then pod.shortDue else 0, longDue := if kept then pod.longDue else 0
    localFault := kept && pod.localFault
    podLost := if cleared then { pod.podLost with condition := false } else pod.podLost
    podClip := if cleared then { pod.podClip with condition := false } else pod.podClip
    podLocal := if cleared then { pod.podLocal with condition := false } else pod.podLocal }

section
variable {s : State} (h : s.linkSound) (p : PodId)
include h

/-- An unlisted pod has no baselines and no presses to deliver (R32, R129). -/
theorem State.linkSound.unlisted (hp : (s.pod p).listed = false) : (s.pod p).cleared ∧ (s.pod p).baselines = none ∧
    (s.pod p).shortDue = 0 ∧ (s.pod p).longDue = 0 := by
  obtain ⟨hcleared, -, hbaselines, hdue, -⟩ := h.1 p
  have hlink := (hcleared hp).1
  have hout : ¬ (s.pod p).reachable := by rw [Pod.reachable, hlink]; decide
  rw [← Option.not_isSome_iff_eq_none, hbaselines]
  exact ⟨hcleared hp, hout, Nat.eq_zero_of_not_pos fun hs => hout (hdue (.inl hs)), Nat.eq_zero_of_not_pos fun hl => hout (hdue (.inr hl))⟩

theorem State.loadedPod_eq : s.loadedPod p = (s.pod p).reloaded (PodSet.has s.loadedRoster p) (PodSet.has s.loadedChairs p)
    (s.loadedClass p) (s.loadedExclusion p) (s.loadedTrim p) (s.loadedVolume p) := by
  have hunlisted := h.unlisted p
  rw [State.loadedPod, State.rosteredPod, Pod.reloaded]
  generalize s.pod p = pod at hunlisted ⊢
  cases hlisted : pod.listed with
  | true => cases PodSet.has s.loadedRoster p <;> simp [Pod.setTrim, Pod.unlist, Ramp.flat, FaultRecord.report, hlisted]
  | false =>
    obtain ⟨⟨hlink, hholds, hflag, hlevel, hfloor, hmute, hgate, hcontrib, hend, hmisses, hfault⟩, hbaselines, hshort, hlong⟩ :=
      hunlisted hlisted
    cases PodSet.has s.loadedRoster p <;> simp [Pod.setTrim, Pod.list, Ramp.flat, *]

end

end Sys2Proof.Machine
end

section
namespace Sys2Proof.Machine

/-! ### The talker list (R10, R15) -/

section
variable {s : State} (h : s.talkersSound)
include h

theorem State.talkers_tune (x : Param) (v : Nat) : (s.tune x v).talkers = (s.tuned x v).talkers := by
  rw [State.tune_eq h, State.talkers_raiseIf]

theorem State.talkersSound_tune (x : Param) {v : Nat} (hv : v ≤ x.range.2) : (s.tune x v).talkersSound := by
  rw [State.tune_eq h]
  simpa [State.talkersSound, State.unmuted] using State.talkersSound_tuned h x hv

theorem State.talkersSound_tuneAll {value : Param → Nat} (hvalue : ∀ x, value x ≤ x.range.2) (xs : List Param) :
    (s.tuneAll value xs).talkersSound := by
  induction xs generalizing s with
  | nil => exact h
  | cons x xs ih => exact ih (State.talkersSound_tune h x (hvalue x))

/-- The parameters of a load cut the list to the limit, and then take a LAST entry out if it is off (R15). -/
theorem State.talkers_loadTuning : s.loadTuning.talkers =
    let cut := limitCut (s.loadedParam .openLimit) s.talkers.length s.talkers
    if s.loadedParam .lastOn = 0 then cut.filter fun e => !e.isLast else cut := by
  have horder : loadOrder = .openLimit :: ([.marginShift, .absThreshold, .gateHold, .attack, .release, .offGain] ++
      .lastOn :: [.muteRamp, .reinforce, .presence, .missLimit, .podOverride, .startPrivate, .flush]) := rfl
  have hrange (x : Param) : s.loadedParam x ≤ x.range.2 := (State.loadedParam_range s x).2
  have hlimit := State.talkersSound_tune h .openLimit (hrange _)
  rw [State.loadTuning_eq, horder, State.tuneAll_cons, State.tuneAll_append, State.tuneAll_cons,
    State.talkers_tuneAll_of_ne _ _ _ (by decide), State.talkers_tune (State.talkersSound_tuneAll hlimit hrange _)]
  have hcut : ((s.tune .openLimit (s.loadedParam .openLimit)).tuneAll s.loadedParam
      [.marginShift, .absThreshold, .gateHold, .attack, .release, .offGain]).talkers =
      limitCut (s.loadedParam .openLimit) s.talkers.length s.talkers := by
    rw [State.talkers_tuneAll_of_ne _ _ _ (by decide), State.talkers_tune h]
    rfl
  rw [← hcut]
  rfl

end

section
variable {s : State} (h : s.lawful)
include h

theorem State.talkers_load : s.load.talkers =
    let cut := limitCut (s.loadedParam .openLimit) s.talkersRostered.length s.talkersRostered
    if s.loadedParam .lastOn = 0 then cut.filter fun e => !e.isLast else cut := by
  have honly : TablesOnly s s.loadRoster.loadGains := (TablesOnly.loadRoster s).trans (TablesOnly.loadGains _)
  have hsound : s.loadRoster.loadGains.talkersSound :=
    (KeepsLaws.loadGains _).talkers ((KeepsLaws.loadRoster s).lawful h)
  rw [State.load, State.talkers_loadTuning hsound, State.talkers_loadGains, State.talkers_loadRoster, honly.loadedParam,
    honly.loadedParam]

/-- An entry of the list stays with the loaded roster exactly when its pod does (R7). -/
theorem State.talkersRostered_eq : s.talkersRostered =
    (s.talkers.filter fun e => PodSet.has s.loadedRoster e.pod).map fun e : Talker => { e with cls := s.loadedClass e.pod } := by
  rw [State.talkersRostered]
  refine congrArg _ (List.filter_congr fun e he => ?_)
  have hlisted : (s.pod e.pod).listed = true := by
    have hunmuted := (h.talkers.2.2.1 e he).1
    rw [State.unmuted, Bool.and_eq_true] at hunmuted
    exact hunmuted.1
  rw [State.goneLoaded, hlisted, Bool.and_true, Bool.not_not]

end

/-! ### The slot and the last-polled address (R131; log 10) -/

section
variable (s : State)

theorem State.slot_noticed (cs : CategorySet) : (s.noticed cs).slot = s.slot ∧ (s.noticed cs).lastPolled = s.lastPolled := by
  simp [State.noticed]

theorem State.slot_listPods : (s.listPods s.loadedRoster).slot = (s.listedWith s.newlyLoaded).slot ∧
    (s.listPods s.loadedRoster).lastPolled = (s.listedWith s.newlyLoaded).lastPolled := by
  obtain ⟨cs, hsettle⟩ : ∃ cs, (s.listPods s.loadedRoster).settle = (s.listedWith s.newlyLoaded).settle.noticed cs :=
    ⟨_, s.settle_listPods s.loadedRoster⟩
  obtain ⟨hslot, hlast⟩ := (s.listedWith s.newlyLoaded).settle.slot_noticed cs
  rw [← hsettle, State.slot_settle, State.slot_settle] at hslot
  rw [← hsettle, State.lastPolled_settle, State.lastPolled_settle] at hlast
  exact ⟨hslot, hlast⟩

theorem State.slot_unlistPods (named : PodSet) : ∀ gone : PodId → Bool, (∀ p, (PodSet.has named p && (s.pod p).listed) = gone p) →
    (s.unlistPods named).slot = (s.slot.map fun x => if gone x.pod && !x.judged then { x with discard := true } else x) ∧
    (s.unlistPods named).lastPolled = if allPods.any gone && !(s.unlistPods named).anyListed then 0 else s.lastPolled := by
  intro gone hgone
  obtain ⟨_, _, _, _, h⟩ := s.unlistPods_eq named
  rw [h, funext hgone]
  simp only [State.slot_raiseIf, State.lastPolled_raiseIf, State.slot_unlisted, State.lastPolled_unlisted, State.anyListed,
    State.pod_raiseIf, true_and]
  congr

theorem State.slot_load_eq : s.load.slot = (s.listedWith s.newlyLoaded).slot.map (fun x =>
      if s.goneLoaded x.pod && !x.judged then { x with discard := true } else x) ∧
    s.load.lastPolled = if allPods.any s.goneLoaded && !(allPods.any fun p => PodSet.has s.loadedRoster p) then 0
      else (s.listedWith s.newlyLoaded).lastPolled := by
  obtain ⟨hlistSlot, hlistLast⟩ := s.slot_listPods
  obtain ⟨hslot, hlast⟩ := (s.listPods s.loadedRoster).slot_unlistPods (~~~s.loadedRoster) s.goneLoaded s.gone_listPods
  rw [← State.rostered, hlistSlot] at hslot
  rw [← State.rostered, hlistLast, State.anyListed] at hlast
  simp only [State.listed_rostered] at hlast
  rw [State.load, State.loadTuning_eq, State.slot_tuneAll, State.lastPolled_tuneAll, State.loadGains, State.slot_mapLegs,
    State.slot_mapPods, State.lastPolled_mapLegs, State.lastPolled_mapPods, State.loadRoster_eq, State.slot_raiseIf,
    State.lastPolled_raiseIf, State.slot_withTalkers, State.lastPolled_withTalkers, State.slot_mapPods, State.lastPolled_mapPods]
  exact ⟨hslot, hlast⟩

end

end Sys2Proof.Machine
end

section
namespace Sys2Proof.Machine

/-! ### The notices of a load (R7, R15, R158, R180) -/

/-- The notices of a load that turns `s` into `t`. -/
def loadNotices (s t : State) : CategorySet :=
  let cleared := fun p => (s.pod p).listed && !(t.pod p).listed
  let newly := fun p => !(s.pod p).listed && (t.pod p).listed
  let ended := fun (r : FaultRecord) => r.latch && r.condition
  onlyIf (allPods.any fun p => (s.pod p).listed != (t.pod p).listed ||
      (s.pod p).chair != (t.pod p).chair || (s.pod p).cls != (t.pod p).cls) .pods |||
    onlyIf (allPods.any fun p => newly p || (cleared p && decide ((s.pod p).holds ≠ HoldSet.empty))) .holds |||
    onlyIf (decide (t.talkers.length < s.talkers.length) ||
      allPods.any fun p => (s.pod p).mutedTalk != (t.pod p).mutedTalk) .talkers |||
    onlyIf (allPods.any fun p => cleared p &&
      (ended (s.pod p).podLost || ended (s.pod p).podClip || ended (s.pod p).podLocal)) .faults

theorem allPods_any_or (f g : PodId → Bool) : (allPods.any f || allPods.any g) = allPods.any fun p => f p || g p := by
  rw [Bool.eq_iff_iff]
  simp only [Bool.or_eq_true, List.any_eq_true, and_or_left, exists_or]

/-- Notices of one category are raised once. -/
theorem onlyIf_gathered (pods gone newly holds left flags faults cut : Bool) :
    onlyIf cut .talkers ||| (onlyIf pods .pods ||| ((onlyIf gone .pods ||| onlyIf holds .holds ||| onlyIf (left || flags) .talkers |||
      onlyIf faults .faults) ||| (onlyIf newly .pods ||| onlyIf newly .holds))) =
    onlyIf (gone || newly || pods) .pods ||| onlyIf (newly || holds) .holds ||| onlyIf (cut || left || flags) .talkers |||
      onlyIf faults .faults := by
  simp only [← onlyIf_or]
  ac_rfl

section
variable {s t : State} (h : s.lawful) (listed : ∀ p, (t.pod p).listed = PodSet.has s.loadedRoster p)
include h

omit h in
theorem State.length_talkersRostered_le : s.talkersRostered.length ≤ s.talkers.length := by
  rw [State.talkersRostered, List.length_map]
  exact List.length_filter_le ..

/-- The list is shorter after a load when an unlisted pod's entry has left or the parameters have cut it. -/
theorem State.talkersCut_iff : (decide (s.load.talkers.length < s.talkersRostered.length) || s.talkers.any fun e => s.goneLoaded e.pod) =
    decide (s.load.talkers.length < s.talkers.length) := by
  have hle : s.load.talkers.length ≤ s.talkersRostered.length := by
    rw [State.talkers_load h]
    have hcut := (limitCut_spec (limit := s.loadedParam .openLimit) (s.talkersRostered_nodup h.talkers.1) (Nat.le_add_left ..)).1.length_le
    dsimp only
    split
    · exact (List.length_filter_le ..).trans hcut
    · exact hcut
  have hrostered : s.talkersRostered.length ≤ s.talkers.length := State.length_talkersRostered_le
  have hleft : (s.talkers.any fun e => s.goneLoaded e.pod) = true ↔ s.talkersRostered.length < s.talkers.length := by
    rw [lt_iff_le_and_ne, and_iff_right hrostered, State.talkersRostered, List.length_map, Ne, List.length_filter_eq_length_iff]
    simp
  rw [Bool.eq_iff_iff, Bool.or_eq_true, hleft, decide_eq_true_iff, decide_eq_true_iff]
  omega

include listed

theorem State.loadNotices_eq (chair : ∀ p, (t.pod p).chair = PodSet.has s.loadedChairs p) (cls : ∀ p, (t.pod p).cls = s.loadedClass p)
    (flag : ∀ p, (t.pod p).mutedTalk = ((s.pod p).listed && (t.pod p).listed && (s.pod p).mutedTalk))
    (talkers : t.talkers = s.load.talkers) :
    onlyIf (decide (s.load.talkers.length < s.talkersRostered.length)) .talkers ||| s.rosterNotices = loadNotices s t := by
  have hgone (p : PodId) : s.goneLoaded p = ((s.pod p).listed && !(t.pod p).listed) := by
    rw [State.goneLoaded, listed, Bool.and_comm]
  have hnewly (p : PodId) : s.newlyLoaded p = (!(s.pod p).listed && (t.pod p).listed) := by
    rw [State.newlyLoaded, listed, Bool.and_comm]
  have hholds (p : PodId) : (s.pod p).holds.any = decide ((s.pod p).holds ≠ HoldSet.empty) := by
    rw [Bool.eq_iff_iff, HoldSet.any_iff, decide_eq_true_iff]
  have hflags (p : PodId) : (s.goneLoaded p && (s.pod p).mutedTalk) = ((s.pod p).mutedTalk != (t.pod p).mutedTalk) := by
    have hunlisted := fun hp => (h.link.unlisted p hp).1.2.2.1
    rw [flag, hgone]
    cases hl : (s.pod p).listed with
    | true => cases (t.pod p).listed <;> cases (s.pod p).mutedTalk <;> rfl
    | false => rw [hunlisted hl]; rfl
  rw [State.rosterNotices, State.unlistNotices, onlyIf_gathered, State.talkersCut_iff h, allPods_any_or, allPods_any_or, allPods_any_or,
    ← talkers, loadNotices]
  simp only [hflags, hholds, ← chair, ← cls]
  simp only [hgone, hnewly]
  have hlisting (p : PodId) : ((s.pod p).listed && !(t.pod p).listed || !(s.pod p).listed && (t.pod p).listed) =
      ((s.pod p).listed != (t.pod p).listed) := by
    cases (s.pod p).listed <;> cases (t.pod p).listed <;> rfl
  simp only [hlisting, Bool.or_assoc]
  rfl

end

end Sys2Proof.Machine
end

section
namespace Sys2Proof.Machine

/-! ### The turn of PROFILE_LOAD (R181) -/

theorem exec_profileLoad (q : PortId) (s : State) : exec (.profileLoad q) s = .next (takeTurn .profileLoad requestProfileLoad q s) := rfl

theorem row_profileLoad : (goodFrame 0x55 []).row = .profileLoad := rfl

/-- PROFILE_LOAD from ROOM: its refusals in order, and the load (R181). -/
theorem requestProfileLoad_eq {s : State} {q : PortId} (hj : JoinedAs s q .room) : requestProfileLoad q (goodFrame 0x55 []) s =
    ensure (!s.anyLegActive) .legsActive (ensure (s.storeOp == .idle) .storeBusy (answerDone [s.commitMap] s.load)) := by
  rw [requestProfileLoad, hj.roleIn_room]
  rfl

/-- What a load that turns `r` into `u` leaves once its turn has ended, beside its ports. -/
theorem TablesOnly.turn_frame {r u v t : State} (h : TablesOnly r u) (hv : v = { u with ports := r.ports })
    (ht : t = { v with pods := t.pods, ports := t.ports }) : t = { r with
      pods := t.pods, legs := u.legs, ports := t.ports, tuning := u.tuning, talkers := u.talkers, slot := u.slot
      lastPolled := u.lastPolled } := by
  generalize t.pods = pods at ht ⊢
  generalize t.ports = ports at ht ⊢
  rw [ht, hv]
  exact congrArg (fun w : State => { w with pods := pods, ports := ports }) h

theorem State.pod_withPorts (u : State) (ports : Vector Port 3) (p : PodId) :
    ({ u with ports := ports } : State).pod p = u.pod p := rfl

section
variable {s : State} (h : s.lawful) (q : PortId) (r : Reply)
include h

theorem State.settle_load : s.load.settle = ({ s.load with ports := s.ports } : State).settle.noticed
    (onlyIf (decide (s.load.talkers.length < s.talkersRostered.length)) .talkers ||| s.rosterNotices) :=
  (s.raises_load h.talkers.1).settle_eq

/-- A pod record once a load's turn has ended (R180). -/
theorem State.pod_loadTurn (p : PodId) : (s.load.turnEnded q r).pod p =
    ((s.pod p).reloaded (PodSet.has s.loadedRoster p) (PodSet.has s.loadedChairs p) (s.loadedClass p) (s.loadedExclusion p)
      (s.loadedTrim p) (s.loadedVolume p)).following (s.load.turnEnded q r) p := by
  have hpod := State.pod_turnEnded (q := q) (State.settle_load h) r p
  generalize s.load.turnEnded q r = t at hpod ⊢
  rw [← State.loadedPod_eq h.link, ← (s.pod_load p).following]
  exact hpod.trans (congrArg (fun pod : Pod => pod.following t p) (State.pod_withPorts s.load s.ports p))

/-- What a load's turn leaves beside its pods and ports. -/
theorem State.loadTurn_frame : s.load.turnEnded q r = { s with
    pods := (s.load.turnEnded q r).pods, legs := s.load.legs, ports := (s.load.turnEnded q r).ports, tuning := s.load.tuning
    talkers := s.load.talkers, slot := s.load.slot, lastPolled := s.load.lastPolled } :=
  (TablesOnly.load s).turn_frame rfl (State.turnEnded_frame (State.settle_load h) r)

end

/-- What `t` is once a load of `s` and its turn have ended, but for its ports (R180). -/
structure Loaded (s t : State) : Prop where
  pod : ∀ p, t.pod p = ((s.pod p).reloaded (PodSet.has s.loadedRoster p) (PodSet.has s.loadedChairs p) (s.loadedClass p)
    (s.loadedExclusion p) (s.loadedTrim p) (s.loadedVolume p)).following t p
  frame : t = { s with
    pods := t.pods, legs := s.load.legs, ports := t.ports, tuning := s.load.tuning, talkers := s.load.talkers
    slot := s.load.slot, lastPolled := s.load.lastPolled }

theorem State.loaded_turnEnded {s : State} (h : s.lawful) (q : PortId) (r : Reply) : Loaded s (s.load.turnEnded q r) :=
  ⟨State.pod_loadTurn h q r, State.loadTurn_frame h q r⟩

namespace Loaded

variable {s t : State} (h : Loaded s t)
include h

theorem listed (p : PodId) : (t.pod p).listed = PodSet.has s.loadedRoster p := by rw [h.pod]; rfl
theorem chair (p : PodId) : (t.pod p).chair = PodSet.has s.loadedChairs p := by rw [h.pod]; rfl
theorem cls (p : PodId) : (t.pod p).cls = s.loadedClass p := by rw [h.pod]; rfl
theorem excl (p : PodId) : (t.pod p).excl = s.loadedExclusion p := by rw [h.pod]; rfl
theorem trim (p : PodId) : (t.pod p).trim = s.loadedTrim p := by rw [h.pod]; rfl
theorem volume (p : PodId) : (t.pod p).volume = s.loadedVolume p := by rw [h.pod]; rfl

theorem flag (p : PodId) : (t.pod p).mutedTalk = ((s.pod p).listed && (t.pod p).listed && (s.pod p).mutedTalk) := by
  rw [h.listed, h.pod]
  rfl

theorem leg (m : LegId) : t.leg m = { s.leg m with gain := s.loadedLegGain m } := by
  have hlegs : t.legs = s.load.legs := by rw [h.frame]
  rw [State.leg, hlegs]
  exact s.leg_load m

theorem tuning (x : Param) : t.tuning.get x = s.loadedParam x := by
  have htuning : t.tuning = s.load.tuning := by rw [h.frame]
  rw [htuning, State.tuning_load]

theorem talkers : t.talkers = s.load.talkers := by rw [h.frame]
theorem slot : t.slot = s.load.slot := by rw [h.frame]
theorem lastPolled : t.lastPolled = s.load.lastPolled := by rw [h.frame]
theorem privacy : t.privacy = s.privacy := by rw [h.frame]

theorem reloaded (p : PodId) : t.pod p = ((s.pod p).reloaded (t.pod p).listed (t.pod p).chair (t.pod p).cls (t.pod p).excl
    (t.pod p).trim (t.pod p).volume).following t p := by
  rw [h.listed, h.chair, h.cls, h.excl, h.trim, h.volume]
  exact h.pod p

theorem tables {s0 : State} (hstore : s0.store = s.store) (hmap : s0.commitMap = s.commitMap) : TablesFrom s0 t :=
  .of_load hstore hmap h.listed h.chair h.cls h.excl h.trim h.volume (fun m => by rw [h.leg]) h.tuning

/-- The list that the load leaves, told by the loaded tables (R10, R15). -/
theorem talkers_spec (hs : s.lawful) : ∃ cut : List Talker,
    let stayed := (s.talkers.filter fun e => (t.pod e.pod).listed).map fun e : Talker => { e with cls := (t.pod e.pod).cls }
    cut.Sublist stayed ∧ cut.length = min t.tuning.openLimit stayed.length ∧
    (∀ gone ∈ stayed, ∀ stays ∈ cut, gone ∉ cut → cutBefore stayed gone stays) ∧
    t.talkers = if t.tuning.lastOn = 0 then cut.filter (fun e => e.state ≠ .last) else cut := by
  have hstayed : ((s.talkers.filter fun e => (t.pod e.pod).listed).map fun e : Talker => { e with cls := (t.pod e.pod).cls }) =
      s.talkersRostered := by
    rw [State.talkersRostered_eq hs]
    simp only [h.listed, h.cls]
  have hlimit : t.tuning.openLimit = s.loadedParam .openLimit := h.tuning .openLimit
  have hlast : t.tuning.lastOn = s.loadedParam .lastOn := h.tuning .lastOn
  obtain ⟨hsub, hlength, hbefore⟩ := limitCut_spec (limit := s.loadedParam .openLimit) (s.talkersRostered_nodup hs.talkers.1)
    (Nat.le_add_left ..)
  refine ⟨limitCut (s.loadedParam .openLimit) s.talkersRostered.length s.talkersRostered, ?_⟩
  rw [hstayed, hlimit, hlast, h.talkers, State.talkers_load hs]
  refine ⟨hsub, hlength, hbefore, ?_⟩
  have hfilter (l : List Talker) : (l.filter fun e => decide (e.state ≠ .last)) = l.filter fun e => !e.isLast :=
    List.filter_congr fun e _ => Bool.eq_iff_iff.2 (by simp [Talker.isLast])
  rw [hfilter]

end Loaded

end Sys2Proof.Machine
end

section
namespace Sys2Proof.Machine

/-! ### The slot that a load begins (R131; log 10) -/

section
variable (s : State) (p : PodId)

theorem State.slotBegun_some : (s.slotBegun (some p)).slot = some ⟨p, pollLevels p (s.pod p).pattern, false, false⟩ ∧
    (s.slotBegun (some p)).lastPolled = addressOf p := by
  rw [← drive_pollOf]
  exact ⟨rfl, rfl⟩

theorem State.pattern_settle : (s.settle.pod p).pattern = s.patternOf p := by rw [State.pod_settle]

/-- The record of a pod that a load lists (R6). -/
theorem State.pod_listRecords_newly {newly : PodId → Bool} (hp : newly p = true) :
    (s.listRecords newly).pod p = (s.pod p).list := by
  rw [State.listRecords, State.pod_mapPods, hp]
  rfl

theorem State.listed_listRecords_loaded :
    ((s.listRecords s.newlyLoaded).pod p).listed = (PodSet.has s.loadedRoster p || (s.pod p).listed) := by
  rw [State.listRecords, State.pod_mapPods, State.newlyLoaded]
  cases PodSet.has s.loadedRoster p <;> cases hl : (s.pod p).listed <;> simp [Pod.list, hl]

end

namespace Loaded

variable {s t : State} (h : Loaded s t)
include h

theorem gone_eq (p : PodId) : s.goneLoaded p = ((s.pod p).listed && !(t.pod p).listed) := by
  rw [State.goneLoaded, h.listed, Bool.and_comm]

/-- With polling stopped, the slot is that of the lowest pod that becomes listed (R131). -/
theorem firstPolled_of_stopped (hslot : s.slot = none) (hnone : ∀ k, (s.pod k).listed = false) {p : PodId}
    (hp : (t.pod p).listed = true) (hlow : ∀ k, (t.pod k).listed = true → p ≤ k) :
    firstPolled s (s.listRecords s.newlyLoaded) = some p := by
  have hany : s.anyListed = false := by simp [State.anyListed, hnone]
  rw [firstPolled, hslot, hany]
  simp only [s.listed_listRecords_loaded, hnone, Bool.or_false, ← h.listed]
  exact find_allPods_lowest hp hlow

theorem firstPolled_of_polling (hpolling : s.slot ≠ none ∨ (∃ k, (s.pod k).listed = true) ∨ ∀ k, (t.pod k).listed = false) :
    firstPolled s (s.listRecords s.newlyLoaded) = none := by
  rw [firstPolled]
  split
  · rename_i hstopped
    obtain ⟨hslot, hunlisted⟩ := Bool.and_eq_true_iff.1 hstopped
    have hany : s.anyListed = false := by simpa using hunlisted
    have hnone (k : PodId) : (s.pod k).listed = false := by simpa using List.any_eq_false.1 hany k (List.mem_finRange k)
    obtain hslot' | ⟨k, hk⟩ | hout := hpolling
    · exact absurd (Option.isNone_iff_eq_none.1 hslot) hslot'
    · exact absurd hk (by rw [hnone]; exact Bool.false_ne_true)
    · refine List.find?_eq_none.2 fun p _ => ?_
      rw [s.listed_listRecords_loaded, hnone, ← h.listed, hout]
      exact Bool.false_ne_true
  · rfl

/-- The entry that a load leaves a pod which it lists in an empty room is the one that the slot's poll carries (R55, R131). -/
theorem patternOf_newly (hs : s.lawful) (hnone : ∀ k, (s.pod k).listed = false) {p : PodId} (hp : (t.pod p).listed = true) :
    (s.listRecords s.newlyLoaded).patternOf p = t.patternOf p := by
  have hroster : PodSet.has s.loadedRoster p = true := by rw [← h.listed, hp]
  have hnewly : s.newlyLoaded p = true := by rw [State.newlyLoaded, hroster, hnone]; rfl
  obtain ⟨⟨-, -, -, -, -, hmute, -⟩, -⟩ := hs.link.unlisted p (hnone p)
  have htalkers : s.talkers = [] := List.eq_nil_iff_forall_not_mem.2 fun e he => by
    have hunmuted := (hs.talkers.2.2.1 e he).1
    rw [State.unmuted, hnone] at hunmuted
    exact Bool.false_ne_true hunmuted
  refine State.patternOf_congr ?_ ?_ ?_ ?_ ?_ ?_
  · rw [s.pod_listRecords_newly p hnewly, hp]; rfl
  · rw [s.pod_listRecords_newly p hnewly, h.pod, hroster]
    simp [Pod.list, Pod.following, Pod.reloaded, hnone]
  · rw [s.pod_listRecords_newly p hnewly, h.flag, hnone]; rfl
  · rw [s.pod_listRecords_newly p hnewly, h.pod]
    simp [Pod.list, Pod.following, Pod.reloaded, hnone, hmute]
  · rw [h.privacy, State.listRecords, State.privacy_mapPods]
  · rw [h.talkers, State.talkers_load_of_empty _ htalkers, State.listRecords, State.talkers_mapPods, htalkers]

theorem slot_of_stopped (hs : s.lawful) (hslot : s.slot = none) (hnone : ∀ k, (s.pod k).listed = false) {p : PodId}
    (hp : (t.pod p).listed = true) (hlow : ∀ k, (t.pod k).listed = true → p ≤ k) :
    t.lastPolled = addressOf p ∧ t.slot = some ⟨p, pollLevels p (t.pod p).pattern, false, false⟩ := by
  obtain ⟨hloadSlot, hloadLast⟩ := s.slot_load_eq
  obtain ⟨hbegun, hpolled⟩ := (s.listRecords s.newlyLoaded).settle.slotBegun_some p
  have hgone (k : PodId) : s.goneLoaded k = false := by rw [State.goneLoaded, hnone, Bool.and_false]
  have hnever : allPods.any s.goneLoaded = false := by simp [funext hgone]
  have hpattern : ((s.listRecords s.newlyLoaded).settle.pod p).pattern = (t.pod p).pattern := by
    have hshown : (t.pod p).pattern = t.patternOf p := congrArg Pod.pattern (h.pod p)
    rw [State.pattern_settle, h.patternOf_newly hs hnone hp, hshown]
  rw [State.listedWith, h.firstPolled_of_stopped hslot hnone hp hlow, hbegun, hpattern, Option.map_some, hgone] at hloadSlot
  rw [State.listedWith, h.firstPolled_of_stopped hslot hnone hp hlow, hpolled, hnever] at hloadLast
  exact ⟨h.lastPolled.trans hloadLast, h.slot.trans hloadSlot⟩

theorem slot_of_polling (hpolling : s.slot ≠ none ∨ (∃ k, (s.pod k).listed = true) ∨ ∀ k, (t.pod k).listed = false) :
    t.slot = s.slot.map (fun x => if s.goneLoaded x.pod && !x.judged then { x with discard := true } else x) ∧
    t.lastPolled = if allPods.any s.goneLoaded && !(allPods.any fun p => (t.pod p).listed) then 0 else s.lastPolled := by
  obtain ⟨hloadSlot, hloadLast⟩ := s.slot_load_eq
  have hkept : (s.listedWith s.newlyLoaded).slot = s.slot ∧ (s.listedWith s.newlyLoaded).lastPolled = s.lastPolled := by
    rw [State.listedWith, h.firstPolled_of_polling hpolling, State.slotBegun, State.slot_settle, State.lastPolled_settle,
      State.listRecords, State.slot_mapPods, State.lastPolled_mapPods]
    exact ⟨rfl, rfl⟩
  rw [hkept.1] at hloadSlot
  rw [hkept.2] at hloadLast
  simp only [h.listed]
  rw [h.slot, h.lastPolled]
  exact ⟨hloadSlot, hloadLast⟩

end Loaded

theorem State.loadNotices_headTaken (s t : State) (q : PortId) (rest : List RequestFrame) :
    loadNotices (s.headTaken q rest) t = loadNotices s t := by
  simp only [loadNotices, State.pod_headTaken, State.talkers_headTaken]

theorem State.ports_withPorts (u : State) (ports : Vector Port 3) : ({ u with ports := ports } : State).ports = ports := rfl

/-- The ports of a load's turn: its notices, and the answer (R151, R158, R180). -/
theorem State.ports_loadTurn {s : State} {q : PortId} {rest : List RequestFrame} (hs : s.settled) (hr : (s.headTaken q rest).lawful)
    (r : Reply) : ((s.headTaken q rest).load.turnEnded q r).ports =
      ((s.noticed (loadNotices s ((s.headTaken q rest).load.turnEnded q r))).answered q rest r).ports := by
  have hloaded := State.loaded_turnEnded hr q r
  have hnotices := State.loadNotices_eq hr hloaded.listed hloaded.chair hloaded.cls hloaded.flag hloaded.talkers
  have hports := State.ports_turnEnded hs (State.ports_withPorts _ _) (State.settle_load hr) r
  rw [hnotices, State.loadNotices_headTaken] at hports
  exact hports

/-- The rest of a load's turn, told by the state before it. -/
theorem Loaded.frame_headTaken {s t : State} {q : PortId} {rest : List RequestFrame} (h : Loaded (s.headTaken q rest) t) : t = { s with
    pods := t.pods, legs := t.legs, tuning := t.tuning, talkers := t.talkers, lastPolled := t.lastPolled, slot := t.slot
    ports := t.ports } := by
  have hframe := h.frame
  have hhead (u : State) : u.headTaken q rest = { u with ports := (u.headTaken q rest).ports } := by
    simp only [State.headTaken, State.modPort, State.mapPorts]
  generalize (s.headTaken q rest).load = u at hframe
  have hs := hhead s
  generalize s.headTaken q rest = r at hframe hs
  generalize r.ports = ports at hs
  subst hs
  rw [hframe]

end Sys2Proof.Machine
end

section
open Sys2Proof Sys2Proof.Machine

/-- Settles O38: the refusals in their order, and the turn of a load, which leaves the loaded records, the cut list, the slot and the
notices of every part. -/
theorem profileLoadReplacesTheTables : Obligations.ProfileLoadReplacesTheTables := by
  intro s q rest hsound hj h
  have ho := requestProfileLoad_eq (hj.headTaken rest)
  rw [State.anyLegActive_headTaken, State.storeOp_headTaken, State.commitMap_headTaken] at ho
  refine ⟨fun hactive => ?_, fun hactive hbusy => ?_, fun hactive hidle => ?_⟩
  · rw [hactive] at ho
    exact (exec_profileLoad q s).trans (congrArg _ (h.takeTurn_refused hj row_profileLoad ho))
  · rw [hactive, beq_eq_false_iff_ne.2 hbusy] at ho
    exact (exec_profileLoad q s).trans (congrArg _ (h.takeTurn_refused hj row_profileLoad ho))
  have hlawful : (s.headTaken q rest).lawful := (KeepsLaws.headTaken s q h.requests).lawful hsound.lawful
  rw [hactive, hidle] at ho
  have hload : requestProfileLoad q (goodFrame 0x55 []) (s.headTaken q rest) =
      .ok (⟨.done, [s.commitMap]⟩, (s.headTaken q rest).load) := ho
  have hturn := h.takeTurn_ended hj row_profileLoad hload
  dsimp only [goodFrame] at hturn
  refine ⟨_, (exec_profileLoad q s).trans (congrArg _ hturn), ?_⟩
  have hloaded := State.loaded_turnEnded hlawful q ⟨.done, 0x55, [s.commitMap]⟩
  have hports := State.ports_loadTurn h.settled hlawful ⟨.done, 0x55, [s.commitMap]⟩
  generalize (s.headTaken q rest).load.turnEnded q ⟨.done, 0x55, [s.commitMap]⟩ = t at hloaded hports ⊢
  have hslot : (s.headTaken q rest).slot = s.slot := by simp [State.headTaken]
  have hlast : (s.headTaken q rest).lastPolled = s.lastPolled := by simp [State.headTaken]
  refine ⟨hloaded.tables (by simp [State.headTaken]) (by simp), fun p => ?_, fun m => ?_, ?_, fun p hnone hunlisted hp hlow => ?_,
    fun hpolling => ?_, ?_⟩
  · have hpod := hloaded.reloaded p
    rw [State.pod_headTaken] at hpod
    exact hpod
  · rw [hloaded.leg, State.leg_headTaken]
  · have htalkers := hloaded.talkers_spec hlawful
    rw [State.talkers_headTaken] at htalkers
    exact htalkers
  · refine hloaded.slot_of_stopped hlawful (hslot.trans hnone) (fun k => ?_) hp hlow
    rw [State.pod_headTaken, hunlisted]
  · have hkept := hloaded.slot_of_polling (by simpa only [hslot, State.pod_headTaken] using hpolling)
    simp only [hloaded.gone_eq, funext hloaded.gone_eq, State.pod_headTaken, hslot, hlast] at hkept
    exact hkept
  · refine hloaded.frame_headTaken.trans ?_
    rw [hports]
    rfl

end
